-- ==== Sys2Proof/Word.lean ====
section
/-! DEFINITION. The word types of the K36 and the splitting of a word into its two bytes (00_scope.md section 8, R175). -/

namespace Sys2Proof

/-- A word is 16 bits (00_scope.md section 8): a window location, a parameter word, an answer word. -/
abbrev Word := BitVec 16

/-- A byte of sector data, of a key, or of port C's serial line. -/
abbrev Byte := BitVec 8

/-- A 32-bit number: a generation (R18) or a change count (R21). -/
abbrev Word32 := BitVec 32

/-- The three ports of the part (00_scope.md section 8). -/
inductive Port where
  | a
  | b
  | c
deriving DecidableEq, Repr

end Sys2Proof
end

