-- ==== Sys2Proof/Machine/Types.lean ====
section
/-! DEFINITION. The values the K36 holds, as plain data: one value per port, port sets, keys, partition records and
tables (R17 to R20), the sectors of the array and the two sectors of a table image (R2, R22). -/

namespace Sys2Proof.Machine

/-- One value for each of the three ports. -/
structure PerPort (α : Type) where
  a : α
  b : α
  c : α
deriving DecidableEq, Repr

/-- The value of one port. -/
def PerPort.get {α : Type} (x : PerPort α) : Port → α
  | .a => x.a
  | .b => x.b
  | .c => x.c

/-- Replaces the value of one port. -/
def PerPort.set {α : Type} (x : PerPort α) (p : Port) (v : α) : PerPort α :=
  match p with
  | .a => { x with a := v }
  | .b => { x with b := v }
  | .c => { x with c := v }

/-- The same function at every port, told which port it is at. -/
def PerPort.mapPorts {α β : Type} (x : PerPort α) (f : Port → α → β) : PerPort β :=
  { a := f .a x.a, b := f .b x.b, c := f .c x.c }

/-- A port set is any subset of A, B and C (00_scope.md section 8): for each port, whether it is in the set. -/
abbrev PortSet := PerPort Bool

/-- The empty port set. -/
def PortSet.empty : PortSet := { a := false, b := false, c := false }

/-- The set that holds one port. -/
def PortSet.single (p : Port) : PortSet := PortSet.empty.set p true

/-- A partition index, 0 to 7 (R17). -/
abbrev Index := Fin 8

/-- One value for each of the eight partition indices. -/
abbrev PerIndex (α : Type) := Vector α 8

/-- A partition set, bit i for index i (R178). -/
abbrev IndexSet := BitVec 8

/-- A key is 16 bytes (00_scope.md section 2). -/
abbrev Key := Vector Byte 16

/-- The value of all zero bytes, which STAGE KEY and SET RECOVERY read as absent (R153, R142). -/
def Key.zero : Key := Vector.replicate 16 0

/-- The key_mode of a keyed partition (R141). -/
inductive KeyMode where
  | standard
  | strict
deriving DecidableEq, Repr

/-- Which key a given key is compared with (R133, R146). -/
inductive Which where
  | partition
  | recovery
deriving DecidableEq, Repr

/-- A key and its key_mode: the two are present together (R19). -/
structure KeyLock where
  key : Key
  mode : KeyMode
deriving DecidableEq, Repr

/-- The fields of a defined partition record (R19). -/
structure Partition where
  /-- 2 to 1023. -/
  firstBlock : Nat
  /-- 1 to 1022. -/
  blockCount : Nat
  /-- A, B, C, or absent for NONE. -/
  writer : Option Port
  readers : PortSet
  /-- The key with its key_mode, absent when the partition is unkeyed. -/
  lock : Option KeyLock
deriving DecidableEq, Repr

/-- A partition record: absent when its defined field is "no" (R19). -/
abbrev Record := Option Partition

/-- A partition table: the two header fields and the eight records (R17, R18). -/
structure Table where
  generation : Word32
  recovery : Option Key
  records : PerIndex Record
deriving DecidableEq, Repr

/-- The empty table (R36): all eight records undefined, generation 0, no recovery key. -/
def Table.empty : Table := { generation := 0, recovery := none, records := Vector.replicate 8 none }

/-- The header sector of a table image, by its fields (R22). The spec gives no byte layout and no width for the
mark and the check value. -/
structure HeaderSector where
  mark : Nat
  generation : Word32
  recovery : Option Key
  check : Nat
deriving DecidableEq, Repr

/-- The records sector of a table image, by its fields (R22). -/
structure RecordsSector where
  generation : Word32
  records : PerIndex Record
  check : Nat
deriving DecidableEq, Repr

/-- What a sector program places in a sector: 512 bytes of a WRITE, or one of the two sectors of a table image. -/
inductive Content where
  | bytes (data : List Byte)
  | header (h : HeaderSector)
  | records (r : RecordsSector)
deriving DecidableEq, Repr

/-- A sector that is not BLANK (R2): a WRITTEN one holds the content programmed into it and the internal check value
made when it was programmed. -/
inductive Sector where
  | written (c : Content) (check : Nat)
  | damaged
deriving DecidableEq, Repr

/-- The sector array: the sectors that are not BLANK, by absolute sector number (R1). A sector that is not listed
is BLANK. The form is canonical: `Memory.wf`. -/
abbrev Memory := List (Nat × Sector)

/-- The report of a sector read (R4). -/
inductive ReadReport where
  | data (c : Content)
  | blank
  | unreadable
deriving DecidableEq, Repr

/-- The report of a sector program (R5). -/
inductive ProgramReport where
  | written
  | programFailure
  | notBlank
deriving DecidableEq, Repr

end Sys2Proof.Machine
end

