-- ==== Sys2Proof/Config.lean ====
section
/-! DEFINITION. What the part fixes (its figures, 00_scope.md section 2 and R181) and the free values: what the spec
says a table image (R22) or a WRITTEN sector (R2) holds without giving its value. A free value has no body: no proof can see what it is. -/

namespace Sys2Proof.Config

/-- Sectors of the array (R1). -/
def sectorCount : Nat := 16384

/-- Sectors of an erase block (section 1.1). -/
def blockSectors : Nat := 16

/-- Erase blocks of the array (section 1.1). -/
def arrayBlocks : Nat := 1024

/-- Bytes of a sector, and of a staging buffer (R85). -/
def sectorBytes : Nat := 512

/-- Staging buffers of the pool (R85). -/
def poolSize : Nat := 24

/-- Entries of a command queue (R60). -/
def queueSize : Nat := 4

/-- Records of a completion queue, the reserved slot counted (R159). -/
def completionSize : Nat := 8

/-- The budget a port has after a reset (R144). -/
def fullBudget : Nat := 4

/-- The greatest generation: no table segment writes beyond it (R27). -/
def lastGeneration : Word32 := 0xFFFFFFFF

/-- Family code of the part record (R181). -/
def familyCode : Nat := 0x36

/-- Revision of the part record (R181). -/
def revision : Nat := 0x01

/-- Ticks of 10 ms in a step of 100 ms (00_scope.md section 8). -/
def ticksPerStep : Nat := 10

/-- FREE VALUE. The identifying mark of a table header: "a fixed value" that R22 does not give. -/
opaque headerMark : Nat

/-- FREE VALUE. The check value of a header sector over its other fields; R22 does not give how it is computed. -/
opaque headerCheck : Nat → Word32 → Option Machine.Key → Nat

/-- FREE VALUE. The check value of a records sector over its other fields; R22 does not give how it is computed. -/
opaque recordsCheck : Word32 → Machine.PerIndex Machine.Record → Nat

/-- FREE VALUE. The internal check value that the array makes when a sector is programmed with a content (R2, R5). The
spec does not give how it is made, and no port sees it. -/
opaque sectorCheck : Nat → Machine.Content → Nat

/-- FREE VALUE. A byte of a table image read as sector data. R22 gives the image "by its fields and not as a byte
layout". No port reaches a table image (R7), so this stands only in states that no run reaches. -/
opaque imageByte : Machine.Content → Nat → Byte

end Sys2Proof.Config
end

