-- ==== Sys2Proof/Syntax.lean ====
section
/-! DEFINITION. The commands of the K36: one constructor per row of spec/opcode_table.json. An issue is the write of
ISSUE (R176); its parameters are the parameter words as they stand (R171), so an issue row carries the port and, for
a queued command, the tag. A row that is an event of the array or of a timer carries what the spec leaves to the
array: whether a program succeeds (R5), and whether a program that is cut had begun (R8). -/

namespace Sys2Proof

inductive Instr where
  -- Issues of the ten queued commands (R62, R177).
  | read (p : Port) (tag : Byte)
  | check (p : Port) (tag : Byte)
  | write (p : Port) (tag : Byte)
  | blank (p : Port) (tag : Byte)
  | wipe (p : Port) (tag : Byte)
  | commit (p : Port) (tag : Byte)
  | openKey (p : Port) (tag : Byte)
  | setKey (p : Port) (tag : Byte)
  | clearKey (p : Port) (tag : Byte)
  | setRecovery (p : Port) (tag : Byte)
  -- An ISSUE word whose code is not one of the part's codes.
  | badCommand (p : Port) (word : Word)
  -- Issues of the immediate commands; an immediate command ignores the tag (R176).
  | claim (p : Port)
  | discard (p : Port)
  | define (p : Port)
  | delete (p : Port)
  | resize (p : Port)
  | modify (p : Port)
  | close (p : Port)
  | hold (p : Port)
  | stageKey (p : Port)
  | abort (p : Port)
  | pop (p : Port)
  | watch (p : Port)
  | notices (p : Port)
  | infoPart (p : Port)
  | infoPartition (p : Port)
  | setup (p : Port)
  -- Accesses of window locations that have a behaviour, and of those that have none (R171).
  | dataWrite (p : Port) (word : Word)
  | dataRead (p : Port)
  | eventsWrite (p : Port) (word : Word)
  | eventEnableWrite (p : Port) (word : Word)
  | registerWrite (p : Port) (loc : Fin 32) (word : Word)
  -- Steps of the port units and the arbiter.
  | commandStart (p : Port)
  | segmentGrant
  -- Ends of array operations. `ok`: a program of a BLANK sector succeeds (R5).
  | readSectorReadEnd
  | checkSectorReadEnd
  | writeProgramEnd (ok : Bool)
  | blankBlockEnd
  | wipeBlockEnd
  | tableBlockBlankEnd
  | tableHeaderProgramEnd (ok : Bool)
  | tableRecordsProgramEnd (ok : Bool)
  | loadReadEnd
  -- Expiries of the timers, and the end of a wake.
  | standbyTimerExpiry
  | wakeEnd
  | leaseExpiry
  | stallExpiry (p : Port)
  -- The reset lines and the supply. `begun`: a sector program in flight has begun to program (R8).
  | portReset (p : Port)
  | portResetRelease (p : Port)
  | partReset (begun : Bool)
  | partResetRelease
  | powerOn (begun : Bool)
  | powerLoss (begun : Bool)
  -- Port C's serial line.
  | frameByte (byte : Byte)
  | frameEnd
deriving DecidableEq, Repr

end Sys2Proof
end

