-- ==== Sys2Proof/Machine/State.lean ====
section
/-! DEFINITION. The state of the K36 as plain data, the reasons a step can stop, and the state after reset. Each field
names the rule that gives it; INVENTORY.md lists them with their reset values. -/

namespace Sys2Proof.Machine

/-- Why a step stops. -/
inductive Fault where
  /-- Raised by SEGMENT_GRANT when the segment's sector or block lies outside the array of 16,384 sectors (R1). Safe:
  a valid table (R20) keeps every segment inside, so no run from reset meets it. -/
  | noSuchSector
deriving DecidableEq, Repr

/-- Why a command has no meaning here. -/
inductive Refusal where
  /-- Raised by exec for a row that has no meaning yet. Safe: the machine stops. No arm of exec uses it. -/
  | notModelled (mnemonic : String)
deriving DecidableEq, Repr

/-- The part state (R17, R37). -/
inductive PartState where
  | loading
  | ready
deriving DecidableEq, Repr

/-- The array power state (R10). -/
inductive PowerState where
  | ready
  | standby
  | waking
deriving DecidableEq, Repr

/-- The completion statuses (R162). -/
inductive Status where
  | ok
  | okChanged
  | unreadable
  | notBlank
  | programFault
  | commitFault
  | aborted
  | stalled
  | partitionChanged
  | notDefined
  | noAccess
  | locked
  | outOfRange
  | notHolder
  | claimed
  | tableBusy
  | holdActive
  | notKeyed
  | budgetSpent
  | keyMismatch
  | modeRefused
deriving DecidableEq, Repr

/-- The queued commands with their parameters as given at issue (R61, R177). SET RECOVERY also holds the old value it
took from the key stage (R153). -/
inductive QueuedCommand where
  | read (part : Index) (start count : Nat)
  | check (part : Index) (start count : Nat)
  | write (part : Index) (start count : Nat)
  | blank (part : Index) (first count : Nat)
  | wipe (part : Index) (which : Which) (key : Key)
  | commit
  | openKey (part : Index) (which : Which) (key : Key)
  | setKey (part : Index) (key : Key) (mode : KeyMode)
  | clearKey (part : Index) (key : Key)
  | setRecovery (new : Key) (old : Option Key)
deriving DecidableEq, Repr

/-- The progress of an ACTIVE READ (R107). -/
structure ReadProgress where
  nextSector : Nat
  sectorsRead : Nat
  readingClosed : Bool
  failAt : Option Nat
  sectorsDone : Nat
  blankMet : Nat
  genStart : Word32
deriving DecidableEq, Repr

/-- The progress of an ACTIVE CHECK (R118). -/
structure CheckProgress where
  nextSector : Nat
  sectorsDone : Nat
  blankMet : Nat
  damagedMet : Nat
  firstDamaged : Option Nat
deriving DecidableEq, Repr

/-- The progress of an ACTIVE WRITE (R122). -/
structure WriteProgress where
  nextSector : Nat
  sectorsDone : Nat
  failAt : Option Nat
deriving DecidableEq, Repr

/-- The progress of an ACTIVE BLANK (R129). -/
structure BlankProgress where
  nextBlock : Nat
  blocksDone : Nat
deriving DecidableEq, Repr

/-- The progress of an ACTIVE WIPE (R134). -/
structure WipeProgress where
  nextBlock : Nat
  blocksDone : Nat
  tableDue : Bool
deriving DecidableEq, Repr

/-- The progress of an ACTIVE entry, by its command (R61). -/
inductive Progress where
  | read (r : ReadProgress)
  | check (c : CheckProgress)
  | write (w : WriteProgress)
  | blank (b : BlankProgress)
  | wipe (w : WipeProgress)
  /-- COMMIT, SET KEY, CLEAR KEY, SET RECOVERY: whether the table segment is still due. -/
  | job (tableDue : Bool)
deriving DecidableEq, Repr

/-- What an entry holds while ACTIVE (R61). Whether a segment of it is in flight is told by the arbiter's segment in
flight, the one home of that fact. -/
structure Active where
  progress : Progress
  abortPending : Bool
deriving DecidableEq, Repr

/-- An entry of a command queue (R61): QUEUED while `active` is absent. -/
structure Entry where
  tag : Byte
  cmd : QueuedCommand
  active : Option Active
deriving DecidableEq, Repr

/-- A completion record (R162): tag, command and status always, and nine optional fields. The command is named by its
code (R177); the presence word is computed from the fields present. -/
structure Completion where
  tag : Byte
  code : Nat
  status : Status
  partition : Option Index
  sectorsDone : Option Nat
  failAt : Option Nat
  blankMet : Option Nat
  damagedMet : Option Nat
  firstDamaged : Option Nat
  genStart : Option Word32
  genEnd : Option Word32
  generation : Option Word32
deriving DecidableEq, Repr

/-- The five states of a buffer on a transfer list (R91). -/
inductive BufferState where
  | filling
  | full
  | inArray
  | ready
  | draining
deriving DecidableEq, Repr

/-- A buffer on a transfer list (R85, R91), with the two facts a READ notes in it (R109). -/
structure Buffer where
  state : BufferState
  /-- The bytes it holds so far, at most 512. -/
  data : List Byte
  /-- The partition sector a READ's buffer holds; absent in a WRITE's buffer. -/
  sector : Option Nat
  /-- The blank mark. -/
  blankMark : Bool
deriving DecidableEq, Repr

/-- The four latched events (R163). DONE and NOTICE are derived. -/
structure Latched where
  table : Bool
  claimLost : Bool
  dataRefused : Bool
  ready : Bool
deriving DecidableEq, Repr

/-- One port unit with its access-unit and pool figures. -/
structure PortUnit where
  /-- The command queue, oldest first (R60). -/
  queue : List Entry
  /-- The completion queue, oldest first (R159). -/
  completions : List Completion
  /-- The reserved slots of the completion queue (R159). -/
  reserved : Nat
  /-- PARAM0 to PARAM11 (R171). -/
  params : Vector Word 12
  /-- ANSWER0 to ANSWER7 (R171). -/
  answers : Vector Word 8
  /-- The word the last data read returned, on the data lines or port C's data output (R173, R174). -/
  dataOut : Word
  /-- The guarantee G (R87). -/
  guarantee : Nat
  /-- The limit L (R87). -/
  limit : Nat
  /-- The transfer list, oldest first (R91). -/
  transfers : List Buffer
  /-- The window offset (R95). -/
  offset : Nat
  /-- The bytes moved through DATA for the ACTIVE READ or WRITE (R95). -/
  moved : Nat
  /-- The transfer unit U (R101). -/
  transferUnit : Nat
  /-- The stall setting, in steps of 10 ms, 0 for off (R79). -/
  stallSetting : Nat
  /-- The stall timer (R79): absent when stopped, else the time counted since it last started, in ticks of 10 ms. -/
  stallTimer : Option Nat
  /-- The standby vote, in steps of 100 ms, 0 for never (R13). -/
  vote : Nat
  /-- The latched events (R163). -/
  latched : Latched
  /-- The six enables, bit by bit as in EVENT_ENABLE (R165, R171). -/
  enables : BitVec 6
  /-- The watch set (R167). -/
  watch : IndexSet
  /-- The notice set (R167). -/
  notice : IndexSet
  /-- The key budget (R144). -/
  budget : Nat
  /-- The key stage (R153). -/
  keyStage : Option Key
  /-- The PRST line is asserted (R182). -/
  prst : Bool
deriving DecidableEq, Repr

/-- The table state with what each state holds (R39): the staged table exists exactly in CLAIMED and COMMITTING (R46),
and the lease timer runs exactly in CLAIMED (R43). -/
inductive TableState where
  | free
  /-- Holder, staged table, lease length in steps of 100 ms, lease timer in ticks of 10 ms since it last started. -/
  | claimed (holder : Port) (staged : Table) (lease : Nat) (timer : Nat)
  | committing (holder : Port) (staged : Table) (lease : Nat)
  | updating (job : Port)
deriving DecidableEq, Repr

/-- The array work of the segment in flight: which operation runs, and for a table segment the new table (R25, R26). -/
inductive Work where
  | readSector (n : Nat)
  | programSector (n : Nat) (data : List Byte)
  | blankBlock (b : Nat)
  | tableBlank (new : Table)
  | tableHeader (new : Table)
  | tableRecords (new : Table)
deriving DecidableEq, Repr

/-- The segment in flight with its owner (R71): the port, the owning command, and whether that entry was removed by its
port's reset (R73). -/
structure Segment where
  port : Port
  cmd : QueuedCommand
  removed : Bool
  work : Work
deriving DecidableEq, Repr

/-- The operation in flight: a sector read of the start-up load, with the reports of the reads before it (R35), or a
port's segment. -/
inductive InFlight where
  | load (got : List ReadReport)
  | segment (g : Segment)
deriving DecidableEq, Repr

/-- A frame of port C in progress (R174). -/
structure Frame where
  /-- The frame byte had bit 5 or bit 6 set. -/
  void : Bool
  /-- A read frame. -/
  reading : Bool
  /-- The location the next word goes to or comes from. -/
  loc : Nat
  /-- In a write frame the first byte of a word whose second has not come; in a read frame the low byte of a word
  whose high byte has been sent. -/
  half : Option Byte
deriving DecidableEq, Repr

/-- The state of the part. -/
structure State where
  /-- The commands that are waiting, first in, first out. -/
  pending : List Instr
  /-- The supply is applied. -/
  powered : Bool
  /-- The RESET input is asserted (R183). -/
  resetLine : Bool
  /-- LOADING or READY (R17). -/
  part : PartState
  /-- The sector array (R1). -/
  array : Memory
  /-- The array power state (R10). -/
  power : PowerState
  /-- The standby timer (R11): absent when stopped, else the time counted, in ticks of 10 ms. -/
  standbyTimer : Option Nat
  /-- The last granted port (R71). -/
  lastGranted : Port
  /-- The operation in flight with its owner (R71, R73). -/
  inFlight : Option InFlight
  /-- The live table (R17). While LOADING it is the empty table, which no decision consults. -/
  live : Table
  /-- The current slot (R24). -/
  currentSlot : Fin 2
  /-- The table state (R39). -/
  tableState : TableState
  /-- The hold is in force (R156). -/
  held : Bool
  /-- The change counts (R21). -/
  counts : PerIndex Word32
  /-- The open sets (R145). -/
  openSets : PerIndex PortSet
  /-- The port units. -/
  ports : PerPort PortUnit
  /-- Port C's frame in progress (R174). -/
  frame : Option Frame
  /-- Port C's chip select is asserted (R174): a byte has come since it was last negated. -/
  selected : Bool
deriving DecidableEq, Repr

/-- No latched event is set (R166). -/
def Latched.clear : Latched := { table := false, claimLost := false, dataRefused := false, ready := false }

/-- A port unit after power-on and after a part reset, with its PRST line negated: R60, R159, R171, R87, R85, R95,
R101, R79, R16, R166, R167, R144, R153. -/
def PortUnit.reset : PortUnit :=
  { queue := [], completions := [], reserved := 0, params := Vector.replicate 12 0, answers := Vector.replicate 8 0,
    dataOut := 0, guarantee := 2, limit := 6, transfers := [], offset := 0, moved := 0, transferUnit := 512,
    stallSetting := 0, stallTimer := none, vote := 0, latched := Latched.clear, enables := 0, watch := 0, notice := 0,
    budget := Config.fullBudget, keyStage := none, prst := false }

/-- Every volatile piece of state at its value after power-on and after a part reset, over a part as delivered, whose
array is all BLANK (R2); no operation in flight yet. -/
def State.cleared : State :=
  { pending := [], powered := true, resetLine := false, part := .loading, array := [], power := .ready,
    standbyTimer := none, lastGranted := .c, inFlight := none, live := Table.empty, currentSlot := 1,
    tableState := .free, held := false, counts := Vector.replicate 8 0,
    openSets := Vector.replicate 8 PortSet.empty,
    ports := { a := PortUnit.reset, b := PortUnit.reset, c := PortUnit.reset }, frame := none,
    selected := false }

/-- The machine right after reset (R183): RESET is negated, the part is LOADING, and the first of the four sector reads
of the start-up load is in flight (R35). -/
def State.reset : State := { State.cleared with inFlight := some (.load []) }

end Sys2Proof.Machine
end

