-- ==== Sys2Proof/Machine/Array.lean ====
section
/-! DEFINITION. The sector array as an addressed store in canonical form, its three operations (R4 to R6), and the cut
of an operation (R8). -/

namespace Sys2Proof.Machine

/-- The canonical form: sector numbers strictly rising. That no entry equals what an unlisted sector reads as holds by
type: an entry is WRITTEN or DAMAGED, an unlisted sector is BLANK (R2). -/
def Memory.wf : Memory → Bool
  | [] => true
  | [_] => true
  | (n, _) :: (k, v) :: rest => decide (n < k) && Memory.wf ((k, v) :: rest)

/-- The sector with the given number: absent when it is BLANK. -/
def Memory.get : Memory → Nat → Option Sector
  | [], _ => none
  | (k, v) :: rest, n => if k = n then some v else Memory.get rest n

/-- Makes one sector WRITTEN or DAMAGED. -/
def Memory.put : Memory → Nat → Sector → Memory
  | [], n, v => [(n, v)]
  | (k, w) :: rest, n, v =>
    if n < k then (n, v) :: (k, w) :: rest
    else if n = k then (n, v) :: rest
    else (k, w) :: Memory.put rest n v

/-- Makes the sectors lo to hi - 1 BLANK. -/
def Memory.clearRange (m : Memory) (lo hi : Nat) : Memory := m.filter fun e => decide (e.1 < lo) || decide (hi ≤ e.1)

/-- Makes `count` sectors from `lo` on DAMAGED. -/
def Memory.damageFrom (m : Memory) (lo : Nat) : Nat → Memory
  | 0 => m
  | k + 1 => Memory.put (Memory.damageFrom m lo k) (lo + k) .damaged

/-- A sector read (R4): it reports by the sector's state and changes nothing. -/
def readSector (m : Memory) (n : Nat) : ReadReport :=
  match Memory.get m n with
  | none => .blank
  | some (.written c _) => .data c
  | some .damaged => .unreadable

/-- What a program of a sector reports (R5): "not blank" by the state look; else as the array turns out, `ok`. -/
def programReport (m : Memory) (n : Nat) (ok : Bool) : ProgramReport :=
  match Memory.get m n with
  | some _ => .notBlank
  | none => if ok then .written else .programFailure

/-- A sector just programmed: WRITTEN with the content given and a new check value (R5). -/
def writtenSector (n : Nat) (c : Content) : Sector := .written c (Config.sectorCheck n c)

/-- What a program leaves in the array (R5). -/
def programSector (m : Memory) (n : Nat) (c : Content) (ok : Bool) : Memory :=
  match programReport m n ok with
  | .written => Memory.put m n (writtenSector n c)
  | .programFailure => Memory.put m n .damaged
  | .notBlank => m

/-- A block blank (R6): all 16 sectors of the block become BLANK. -/
def blankBlock (m : Memory) (b : Nat) : Memory :=
  Memory.clearRange m (b * Config.blockSectors) (b * Config.blockSectors + Config.blockSectors)

/-- The 512 bytes a sector read delivers for a content (R4); for a table image they are free. -/
def Content.toBytes : Content → List Byte
  | .bytes data => data
  | c => (List.range Config.sectorBytes).map (Config.imageByte c)

/-- The slot that is not current, which every table segment writes (R24). -/
def otherSlot (slot : Fin 2) : Fin 2 := if slot = 0 then 1 else 0

/-- Absolute sector k of a slot's block: block 0 is slot 0, block 1 is slot 1 (section 1.1). -/
def slotSector (slot : Fin 2) (k : Nat) : Nat := slot.val * Config.blockSectors + k

/-- What a cut leaves of the operation in flight (R8). `begun`: a program had begun to program; a program whose state
look finds its sector not BLANK never begins. -/
def cutWork (m : Memory) (slot : Fin 2) (begun : Bool) : Work → Memory
  | .readSector _ => m
  | .programSector n _ => if begun then programSector m n (.bytes []) false else m
  | .blankBlock b => Memory.damageFrom m (b * Config.blockSectors) Config.blockSectors
  | .tableBlank _ => Memory.damageFrom m (slotSector slot 0) Config.blockSectors
  | .tableHeader _ => if begun then programSector m (slotSector slot 0) (.bytes []) false else m
  | .tableRecords _ => if begun then programSector m (slotSector slot 1) (.bytes []) false else m

/-- The array after the operation in flight, if any, has been cut (R8). -/
def State.cutArray (s : State) (begun : Bool) : Memory :=
  match s.inFlight with
  | some (.segment g) => cutWork s.array (otherSlot s.currentSlot) begun g.work
  | some (.load _) => s.array
  | none => s.array

/-- The sectors of the work exist (R1). -/
def Work.inArray : Work → Bool
  | .readSector n => decide (n < Config.sectorCount)
  | .programSector n _ => decide (n < Config.sectorCount)
  | .blankBlock b => decide (b < Config.arrayBlocks)
  | .tableBlank _ => true
  | .tableHeader _ => true
  | .tableRecords _ => true

end Sys2Proof.Machine
end

