-- ==== Sys2Proof/Machine/Ops.lean ====
section
/-! DEFINITION. The operations the commands share: the port units, the buffer pool and its allocation rule (R85 to
R89), the segments of the commands and their eligibility (R68, R69), the timers and the wake (R11, R15, R80), change
counts (R21, R132), and the end of an ACTIVE entry with its record (R67, R94, R160). -/

namespace Sys2Proof.Machine

/-! ### Port units -/

/-- The port unit of a port. -/
def State.port (s : State) (p : Port) : PortUnit := s.ports.get p

/-- Replaces the port unit of a port. -/
def State.setPort (s : State) (p : Port) (u : PortUnit) : State := { s with ports := s.ports.set p u }

/-- Changes the port unit of a port. -/
def State.updPort (s : State) (p : Port) (f : PortUnit → PortUnit) : State := s.setPort p (f (s.port p))

/-- Changes every port unit. -/
def State.mapPorts (s : State) (f : Port → PortUnit → PortUnit) : State := { s with ports := s.ports.mapPorts f }

/-- The ACTIVE entry of a command queue: the oldest entry, when it has started (R60). -/
def PortUnit.activeEntry (u : PortUnit) : Option (Entry × Active) :=
  match u.queue with
  | [] => none
  | e :: _ => e.active.map fun a => (e, a)

/-- Replaces what the ACTIVE entry holds. -/
def PortUnit.setActive (u : PortUnit) (a : Active) : PortUnit :=
  match u.queue with
  | [] => u
  | e :: rest => { u with queue := { e with active := some a } :: rest }

/-- Replaces the progress of the ACTIVE entry. -/
def PortUnit.setProgress (u : PortUnit) (pr : Progress) : PortUnit :=
  match u.activeEntry with
  | none => u
  | some (_, a) => u.setActive { a with progress := pr }

/-- The segment in flight is one of the port's ACTIVE entry (R61). -/
def State.ownSegment (s : State) (p : Port) : Bool :=
  match s.inFlight with
  | some (.segment g) => decide (g.port = p) && !g.removed
  | some (.load _) => false
  | none => false

/-- The segment in flight belongs to an entry of the port that its port's reset has removed (R73). -/
def State.removedSegment (s : State) (p : Port) : Bool :=
  match s.inFlight with
  | some (.segment g) => decide (g.port = p) && g.removed
  | some (.load _) => false
  | none => false

/-- The live record of an index. -/
def State.record (s : State) (i : Index) : Record := s.live.records[i]

/-- The ports permitted on a partition: its writer, if not NONE, and its readers (R32). -/
def Partition.permits (x : Partition) (p : Port) : Bool := decide (x.writer = some p) || x.readers.get p

/-- The partition a command names (R162). -/
def QueuedCommand.part : QueuedCommand → Option Index
  | .read i _ _ => some i
  | .check i _ _ => some i
  | .write i _ _ => some i
  | .blank i _ _ => some i
  | .wipe i _ _ => some i
  | .commit => none
  | .openKey i _ _ => some i
  | .setKey i _ _ => some i
  | .clearKey i _ => some i
  | .setRecovery _ _ => none

/-- The partition a command acts on at a switchover: READ, CHECK, WRITE, BLANK and WIPE (R31). -/
def QueuedCommand.actsOn : QueuedCommand → Option Index
  | .read i _ _ => some i
  | .check i _ _ => some i
  | .write i _ _ => some i
  | .blank i _ _ => some i
  | .wipe i _ _ => some i
  | .commit => none
  | .openKey _ _ _ => none
  | .setKey _ _ _ => none
  | .clearKey _ _ => none
  | .setRecovery _ _ => none

/-- The command codes (R177). -/
def QueuedCommand.code : QueuedCommand → Nat
  | .read _ _ _ => 0x01
  | .check _ _ _ => 0x02
  | .write _ _ _ => 0x03
  | .blank _ _ _ => 0x04
  | .wipe _ _ _ => 0x05
  | .commit => 0x06
  | .openKey _ _ _ => 0x07
  | .setKey _ _ _ => 0x08
  | .clearKey _ _ => 0x09
  | .setRecovery _ _ => 0x0A

/-! ### The buffer pool -/

/-- The number of buffers on a port's transfer list (R85). -/
def PortUnit.holding (u : PortUnit) : Nat := u.transfers.length

/-- The buffers on the three transfer lists. -/
def State.heldCount (s : State) : Nat := (s.port .a).holding + (s.port .b).holding + (s.port .c).holding

/-- The free count (R85). -/
def State.freeCount (s : State) : Nat := Config.poolSize - s.heldCount

/-- The guarantee minus the holding, 0 when that is not positive (R86). -/
def PortUnit.unmet (u : PortUnit) : Nat := u.guarantee - u.holding

/-- The sum of the unmet guarantees of the two other ports. -/
def State.othersUnmet (s : State) : Port → Nat
  | .a => (s.port .b).unmet + (s.port .c).unmet
  | .b => (s.port .a).unmet + (s.port .c).unmet
  | .c => (s.port .a).unmet + (s.port .b).unmet

/-- The allocation rule (R88): port p may take a free buffer now. -/
def State.mayTake (s : State) (p : Port) : Bool :=
  decide (0 < s.freeCount) && decide ((s.port p).holding < (s.port p).limit) &&
    (decide ((s.port p).holding < (s.port p).guarantee) || decide (s.othersUnmet p ≤ s.freeCount - 1))

/-- The pool test of a new guarantee: the free count covers the unmet guarantee the port would have, beside the other
ports' (R102). -/
def State.poolAdmits (s : State) (p : Port) (g : Nat) : Bool :=
  decide ((g - (s.port p).holding) + s.othersUnmet p ≤ s.freeCount)

/-! ### Table segments -/

/-- The record with a key and key_mode put in place, or made absent. -/
def Record.withLock (r : Record) (lock : Option KeyLock) : Record := r.map fun x => { x with lock := lock }

/-- The new table of a table segment, composed at its grant from the live table and, for COMMIT, the staged table
(R25). -/
def State.composed (s : State) (cmd : QueuedCommand) : Table :=
  let next : Table := { s.live with generation := s.live.generation + 1 }
  match cmd with
  | .commit =>
    match s.tableState with
    | .committing _ staged _ => { next with records := staged.records }
    | .free => next
    | .claimed _ _ _ _ => next
    | .updating _ => next
  | .setKey i key mode =>
    { next with records := next.records.set i (Record.withLock next.records[i] (some { key := key, mode := mode })) }
  | .clearKey i _ => { next with records := next.records.set i (Record.withLock next.records[i] none) }
  | .wipe i _ _ => { next with records := next.records.set i (Record.withLock next.records[i] none) }
  | .setRecovery new _ => { next with recovery := if new = Key.zero then none else some new }
  | .read _ _ _ => next
  | .check _ _ _ => next
  | .write _ _ _ => next
  | .blank _ _ _ => next
  | .openKey _ _ _ => next

/-! ### Eligibility -/

/-- The oldest buffer of a transfer list, when it is in the given state. -/
def PortUnit.oldestIs (u : PortUnit) (st : BufferState) : Bool :=
  match u.transfers with
  | [] => false
  | b :: _ => decide (b.state = st)

/-- The data of the oldest buffer. -/
def PortUnit.oldestData (u : PortUnit) : List Byte :=
  match u.transfers with
  | [] => []
  | b :: _ => b.data

/-- The array work of the segment that an ACTIVE entry could be granted now, by its command's condition (R69) and its
addresses (R108, R119, R124, R130, R134); absent when its condition does not hold. The partition of an ACTIVE entry is
defined in the live table (R31), so a record that is absent gives no work. -/
def State.workOf (s : State) (p : Port) (e : Entry) (a : Active) : Option Work :=
  match e.cmd, a.progress with
  | .read i _ _, .read r =>
    match s.record i with
    | none => none
    | some x =>
      if !r.readingClosed && s.mayTake p then
        some (.readSector (x.firstBlock * Config.blockSectors + r.nextSector))
      else none
  | .check i _ count, .check c =>
    match s.record i with
    | none => none
    | some x =>
      if c.sectorsDone < count then some (.readSector (x.firstBlock * Config.blockSectors + c.nextSector)) else none
  | .write i _ count, .write w =>
    match s.record i with
    | none => none
    | some x =>
      if decide (w.sectorsDone < count) && (s.port p).oldestIs .full then
        some (.programSector (x.firstBlock * Config.blockSectors + w.nextSector) (s.port p).oldestData)
      else none
  | .blank i _ count, .blank b =>
    match s.record i with
    | none => none
    | some x => if b.blocksDone < count then some (.blankBlock (x.firstBlock + b.nextBlock)) else none
  | .wipe i _ _, .wipe w =>
    match s.record i with
    | none => none
    | some x =>
      if w.blocksDone < x.blockCount then some (.blankBlock (x.firstBlock + w.nextBlock))
      else if w.tableDue then some (.tableBlank (s.composed e.cmd))
      else none
  | .commit, .job due => if due then some (.tableBlank (s.composed e.cmd)) else none
  | .setKey _ _ _, .job due => if due then some (.tableBlank (s.composed e.cmd)) else none
  | .clearKey _ _, .job due => if due then some (.tableBlank (s.composed e.cmd)) else none
  | .setRecovery _ _, .job due => if due then some (.tableBlank (s.composed e.cmd)) else none
  | _, _ => none

/-- The segment a port's ACTIVE command could be granted now: its entry, what it holds, and the work. A command is not
eligible while a segment of it is in flight (R69). -/
def State.nextWork (s : State) (p : Port) : Option (Entry × Active × Work) :=
  match (s.port p).activeEntry with
  | none => none
  | some (e, a) => if s.ownSegment p then none else (s.workOf p e a).map fun w => (e, a, w)

/-- The port's ACTIVE command is eligible (R69). -/
def State.eligible (s : State) (p : Port) : Bool := (s.nextWork p).isSome

/-- Some port's ACTIVE command is eligible. -/
def State.anyEligible (s : State) : Bool := s.eligible .a || s.eligible .b || s.eligible .c

/-- The arbiter wants to grant: no segment in flight, the part READY, a command eligible (R15). -/
def State.wantsGrant (s : State) : Bool := s.inFlight.isNone && decide (s.part = .ready) && s.anyEligible

/-- The port after a port in the order A, B, C, A (R72). -/
def nextPort : Port → Port
  | .a => .b
  | .b => .c
  | .c => .a

/-- The port whose segment the arbiter grants: the first eligible one after the last granted port (R72). -/
def State.grantee (s : State) : Option Port :=
  let p := nextPort s.lastGranted
  let q := nextPort p
  let r := nextPort q
  if s.eligible p then some p else if s.eligible q then some q else if s.eligible r then some r else none

/-! ### Timers and the wake -/

/-- The effective standby interval E in steps of 100 ms, 0 for never (R13). -/
def State.interval (s : State) : Nat :=
  let a := (s.port .a).vote
  let b := (s.port .b).vote
  let c := (s.port .c).vote
  if a = 0 ∨ b = 0 ∨ c = 0 then 0 else max a (max b c)

/-- The standby timer may run: the array READY and idle, the part READY, E not never (R11). -/
def State.idleTimed (s : State) : Bool :=
  decide (s.power = .ready) && s.inFlight.isNone && decide (s.part = .ready) && decide (s.interval ≠ 0)

/-- The port's ACTIVE command waits on the port's own data side with no segment of it in flight (R80). -/
def State.waitsOnData (s : State) (p : Port) : Bool :=
  match (s.port p).activeEntry with
  | none => false
  | some (e, a) =>
    !s.ownSegment p &&
    match e.cmd, a.progress with
    | .write _ _ count, .write w =>
      decide (w.sectorsDone < count) &&
        ((s.port p).oldestIs .filling || ((s.port p).transfers.isEmpty && s.mayTake p))
    | .read _ _ _, .read r =>
      (s.port p).transfers.any (fun b => decide (b.state = .ready) || decide (b.state = .draining)) &&
        (r.readingClosed || !s.mayTake p)
    | _, _ => false

/-- A timer follows its condition: it stops when the condition does not hold, starts from zero when it comes to hold,
and otherwise goes on. -/
def followTimer (runs : Bool) (timer : Option Nat) : Option Nat :=
  if runs then some (timer.getD 0) else none

/-- A running timer starts again from zero; a stopped one stays stopped. -/
def restartTimer (timer : Option Nat) : Option Nat := timer.map fun _ => 0

/-- The array in STANDBY enters WAKING when the arbiter wants to grant (R15). -/
def State.wakeIfWanted (s : State) : State :=
  if s.power = .standby ∧ s.wantsGrant = true then { s with power := .waking } else s

/-- The standby timer follows R11: it starts when the array is idle and no segment is granted at once, and runs on
while the array is idle. -/
def State.followStandby (s : State) : State :=
  { s with
    standbyTimer :=
      followTimer (s.idleTimed && (s.standbyTimer.isSome || !s.wantsGrant)) s.standbyTimer }

/-- Each port's stall timer follows R80. -/
def State.followStall (s : State) : State :=
  s.mapPorts fun p u =>
    { u with stallTimer := followTimer (decide (u.stallSetting ≠ 0) && s.waitsOnData p) u.stallTimer }

/-- What follows at once from any change of the queues, the pool, the array's work or the votes: the wake (R15), the
standby timer (R11, R14) and the stall timers (R80). -/
def State.settle (s : State) : State := s.wakeIfWanted.followStandby.followStall

/-- One tick more on a timer, up to its length: then it has counted its length and its expiry is due. -/
def countUp (length : Nat) (t : Nat) : Nat := if t < length then t + 1 else t

/-- The passage of 10 ms with no command waiting: every running timer counts (R11, R43, R79). -/
def State.tick (s : State) : State :=
  { s with
    standbyTimer := s.standbyTimer.map (countUp (s.interval * Config.ticksPerStep)),
    tableState :=
      match s.tableState with
      | .claimed h staged lease t => .claimed h staged lease (countUp (lease * Config.ticksPerStep) t)
      | .free => .free
      | .committing h staged lease => .committing h staged lease
      | .updating j => .updating j,
    ports := s.ports.mapPorts fun _ u => { u with stallTimer := u.stallTimer.map (countUp u.stallSetting) } }

/-! ### Change counts and notices -/

/-- The partition set that holds one index (R178). -/
def indexBit (i : Index) : IndexSet := 1#8 <<< i.val

/-- A partition's change count rises by one, caused by a command of `cause`; each other port that watches the partition
adds it to its notice set (R21, R132, R169). -/
def State.riseCount (s : State) (i : Index) (cause : Port) : State :=
  { s with
    counts := s.counts.set i (s.counts[i] + 1),
    ports := s.ports.mapPorts fun q u =>
      if q ≠ cause ∧ u.watch &&& indexBit i ≠ 0 then { u with notice := u.notice ||| indexBit i } else u }

/-! ### Completions -/

/-- The record of a command with no optional field. -/
def Completion.bare (tag : Byte) (code : Nat) (st : Status) : Completion :=
  { tag := tag, code := code, status := st, partition := none, sectorsDone := none, failAt := none, blankMet := none,
    damagedMet := none, firstDamaged := none, genStart := none, genEnd := none, generation := none }

/-- The record of a command that ends at its start: the partition, when it names one (R117, R120, R128, R131, R137,
R147, section 8.10); a COMMIT carries the live generation with every status (R162). -/
def State.startRecord (s : State) (e : Entry) (st : Status) : Completion :=
  { Completion.bare e.tag e.cmd.code st with
    partition := e.cmd.part,
    generation := match e.cmd with
      | .commit => some s.live.generation
      | _ => none }

/-- A table segment's outcome, which a record carries with the live generation (R137, section 8.10). -/
def Status.ofTableSegment (st : Status) : Bool := decide (st = .ok) || decide (st = .commitFault)

/-- The record of an ACTIVE entry at its end, from its progress as it stands (R160): the fields of R117, R120, R128,
R131, R137, R162 and section 8.10. -/
def State.endRecord (s : State) (e : Entry) (pr : Progress) (st : Status) : Completion :=
  let base := { Completion.bare e.tag e.cmd.code st with partition := e.cmd.part }
  let withGeneration := { base with generation := if st.ofTableSegment then some s.live.generation else none }
  match e.cmd, pr with
  | .read i _ _, .read r =>
    { base with sectorsDone := some r.sectorsDone, blankMet := some r.blankMet, failAt := r.failAt,
                genStart := some r.genStart, genEnd := some s.counts[i] }
  | .check _ _ _, .check c =>
    { base with sectorsDone := some c.sectorsDone, blankMet := some c.blankMet, damagedMet := some c.damagedMet,
                firstDamaged := c.firstDamaged }
  | .write _ _ _, .write w => { base with sectorsDone := some w.sectorsDone, failAt := w.failAt }
  | .blank _ _ _, .blank b => { base with sectorsDone := some (b.blocksDone * Config.blockSectors) }
  | .wipe _ _ _, .wipe w => { withGeneration with sectorsDone := some (w.blocksDone * Config.blockSectors) }
  | .commit, .job _ => { base with generation := some s.live.generation }
  | .setKey _ _ _, .job _ => withGeneration
  | .clearKey _ _, .job _ => withGeneration
  | .setRecovery _ _, .job _ => withGeneration
  | _, _ => base

/-- A record joins the tail of the completion queue in its reserved slot (R160). -/
def PortUnit.post (u : PortUnit) (r : Completion) : PortUnit :=
  { u with completions := u.completions ++ [r], reserved := u.reserved - 1 }

/-- The buffers a port keeps when its entry ends: one that is IN_ARRAY for the segment of an entry removed by a port
reset (R94, R104). -/
def PortUnit.keptBuffers (u : PortUnit) (removed : Bool) : List Buffer :=
  if removed then u.transfers.filter fun b => decide (b.state = .inArray) else []

/-- The transfer of a port unit is over: its buffers are freed, the offset returns to 0, the stall timer stops (R67,
R94, R95). -/
def PortUnit.endTransfer (u : PortUnit) (removed : Bool) : PortUnit :=
  { u with transfers := u.keptBuffers removed, offset := 0, moved := 0, stallTimer := none }

/-- The ACTIVE entry of a port ends with a status (R67): its record is posted, its buffers are freed and it leaves the
queue. -/
def State.finish (s : State) (p : Port) (st : Status) : State :=
  match (s.port p).activeEntry with
  | none => s
  | some (e, a) =>
    s.updPort p fun u =>
      { ((u.endTransfer (s.removedSegment p)).post (s.endRecord e a.progress st)) with queue := u.queue.tail }

/-- What the end of a command does to the table state before its table segment has been granted (R41, R55): a COMMIT
returns it to CLAIMED with the lease timer restarted, a key job or a WIPE to FREE. -/
def State.leaveTableState (s : State) : QueuedCommand → State
  | .commit =>
    match s.tableState with
    | .committing h staged lease => { s with tableState := .claimed h staged lease 0 }
    | .free => s
    | .claimed _ _ _ _ => s
    | .updating _ => s
  | .wipe _ _ _ => { s with tableState := .free }
  | .setKey _ _ _ => { s with tableState := .free }
  | .clearKey _ _ => { s with tableState := .free }
  | .setRecovery _ _ => { s with tableState := .free }
  | .read _ _ _ => s
  | .check _ _ _ => s
  | .write _ _ _ => s
  | .blank _ _ _ => s
  | .openKey _ _ _ => s

/-! ### Accesses and answers -/

/-- The port takes accesses: neither RESET nor its PRST is asserted (R173, R182, R183), and the supply is applied (log 15). -/
def State.takesAccess (s : State) (p : Port) : Bool := s.powered && !s.resetLine && !(s.port p).prst

/-- Port C's frame stands at a word of the given location in the given direction (R174). -/
def State.frameAt (s : State) (reading : Bool) (loc : Nat) : Bool :=
  match s.frame with
  | none => false
  | some f => !f.void && decide (f.reading = reading) && decide (f.loc = loc) && f.half.isNone

/-- An access of a location is made at the port: at A and B whenever the port takes accesses, at C within a frame that
stands at that location (R173, R174). -/
def State.accessMade (s : State) (p : Port) (reading : Bool) (loc : Nat) : Bool :=
  s.takesAccess p &&
  match p with
  | .a => true
  | .b => true
  | .c => s.frameAt reading loc

/-- The location after a word: it rises by one, and stays at DATA and at 31 (R174). -/
def nextLocation (loc : Nat) : Nat := if loc = 21 ∨ loc = 31 then loc else loc + 1

/-- Port C's frame moves past a word (R174). -/
def State.passWord (s : State) (p : Port) : State :=
  match p with
  | .a => s
  | .b => s
  | .c => { s with frame := s.frame.map fun f => { f with loc := nextLocation f.loc, half := none } }

/-- A write access of a location with the given effect; an access that is not made has none (R173, R174). -/
def State.onWrite (s : State) (p : Port) (loc : Nat) (effect : State → State) : State :=
  if s.accessMade p false loc then (effect s).passWord p else s

/-- Replaces all eight answer words of a port (R176). -/
def State.answer (s : State) (p : Port) (ws : Vector Word 8) : State := s.updPort p fun u => { u with answers := ws }

end Sys2Proof.Machine
end

