-- ==== Sys2Proof/Machine/Operands.lean ====
section
/-! DEFINITION. The operand forms: parameter words (R177, R178), keys (R175), and the layouts of answers, completion
records (R178, R179), and the part and partition records (R181). -/

namespace Sys2Proof.Machine

/-! ### Parameter words -/

/-- PARAMn as a whole 16-bit number (R178). -/
def PortUnit.param (u : PortUnit) (n : Fin 12) : Nat := u.params[n].toNat

/-- A partition index, selector or edit index: 0 to 7 (R62, R178). -/
def indexOf (n : Nat) : Option Index := if h : n < 8 then some ⟨n, h⟩ else none

/-- A port: 0 NONE, 1 A, 2 B, 3 C; the answer is absent outside the encoding (R178). -/
def writerOf : Nat → Option (Option Port)
  | 0 => some none
  | 1 => some (some .a)
  | 2 => some (some .b)
  | 3 => some (some .c)
  | _ => none

/-- A port set: bit 0 for A, bit 1 for B, bit 2 for C (R178). -/
def portSetOf (n : Nat) : Option PortSet :=
  if n < 8 then some { a := n.testBit 0, b := n.testBit 1, c := n.testBit 2 } else none

/-- A partition set: bit i for index i (R178). -/
def indexSetOf (n : Nat) : Option IndexSet := if n < 256 then some (BitVec.ofNat 8 n) else none

/-- Which: 0 PARTITION, 1 RECOVERY (R178). -/
def whichOf : Nat → Option Which
  | 0 => some .partition
  | 1 => some .recovery
  | _ => none

/-- A mode: 0 STANDARD, 1 STRICT (R178). -/
def modeOf : Nat → Option KeyMode
  | 0 => some .standard
  | 1 => some .strict
  | _ => none

/-- A tag: 0 to 255 (R178). -/
def tagOf (n : Nat) : Option Byte := if n < 256 then some (BitVec.ofNat 8 n) else none

/-- The low byte of a word. -/
def lowByte (w : Word) : Byte := w.setWidth 8

/-- The high byte of a word. -/
def highByte (w : Word) : Byte := (w >>> 8).setWidth 8

/-- A word of its high and its low byte. -/
def wordOf (high low : Byte) : Word := high ++ low

/-- The key in PARAM4 to PARAM11: byte 2k is the low byte of PARAM(4 + k), byte 2k+1 its high byte (R175). -/
def PortUnit.paramKey (u : PortUnit) : Key :=
  #v[lowByte u.params[4], highByte u.params[4], lowByte u.params[5], highByte u.params[5],
     lowByte u.params[6], highByte u.params[6], lowByte u.params[7], highByte u.params[7],
     lowByte u.params[8], highByte u.params[8], lowByte u.params[9], highByte u.params[9],
     lowByte u.params[10], highByte u.params[10], lowByte u.params[11], highByte u.params[11]]

/-! ### Encodings in answers -/

/-- A port as a number, 0 for none (R178). -/
def portCode : Option Port → Nat
  | none => 0
  | some .a => 1
  | some .b => 2
  | some .c => 3

/-- A flag as a number. -/
def flagCode (b : Bool) : Nat := if b then 1 else 0

/-- A port set as a number (R178). -/
def portSetCode (s : PortSet) : Nat := flagCode s.a + 2 * flagCode s.b + 4 * flagCode s.c

/-- Bits 0 to 15 of a 32-bit number. -/
def lowWord (n : Word32) : Word := n.setWidth 16

/-- Bits 16 to 31 of a 32-bit number. -/
def highWord (n : Word32) : Word := (n >>> 16).setWidth 16

/-- The completion statuses' codes (R178). -/
def Status.code : Status → Nat
  | .ok => 0x01
  | .okChanged => 0x02
  | .unreadable => 0x03
  | .notBlank => 0x04
  | .programFault => 0x05
  | .commitFault => 0x06
  | .aborted => 0x07
  | .stalled => 0x08
  | .partitionChanged => 0x09
  | .notDefined => 0x0A
  | .noAccess => 0x0B
  | .locked => 0x0C
  | .outOfRange => 0x0D
  | .notHolder => 0x0E
  | .claimed => 0x0F
  | .tableBusy => 0x10
  | .holdActive => 0x11
  | .notKeyed => 0x12
  | .budgetSpent => 0x13
  | .keyMismatch => 0x14
  | .modeRefused => 0x15

/-- The answer codes (R178), by the names an answer may carry. -/
def codeNotDefined : Nat := 0x0A
def codeNotHolder : Nat := 0x0E
def codeClaimed : Nat := 0x0F
def codeTableBusy : Nat := 0x10
def codeHoldActive : Nat := 0x11
def codeDone : Nat := 0x20
def codeAccepted : Nat := 0x21
def codeBadCommand : Nat := 0x22
def codeQueueFull : Nat := 0x23
def codeTagInUse : Nat := 0x24
def codeBadParam : Nat := 0x25
def codeNotReady : Nat := 0x26
def codeDefined : Nat := 0x27
def codeOverlap : Nat := 0x28
def codeEmpty : Nat := 0x29
def codeNotFound : Nat := 0x2A
def codePoolBusy : Nat := 0x2B

/-- An answer with two values: the code in ANSWER0, the values in ANSWER1 and ANSWER2, 0 elsewhere (R176). -/
def answerWith2 (code : Nat) (v1 v2 : Word) : Vector Word 8 := #v[BitVec.ofNat 16 code, v1, v2, 0, 0, 0, 0, 0]

/-- An answer with one value in ANSWER1 (R176). -/
def answerWith (code : Nat) (v1 : Word) : Vector Word 8 := answerWith2 code v1 0

/-- An answer that carries its code alone (R178). -/
def answerCode (code : Nat) : Vector Word 8 := answerWith2 code 0 0

/-! ### The completion record in the answer words (R179) -/

/-- The presence word, as bits 5 to 13 of ANSWER1. -/
def Completion.presence (r : Completion) : Nat :=
  32 * flagCode r.partition.isSome + 64 * flagCode r.sectorsDone.isSome + 128 * flagCode r.failAt.isSome +
  256 * flagCode r.blankMet.isSome + 512 * flagCode r.damagedMet.isSome + 1024 * flagCode r.firstDamaged.isSome +
  2048 * flagCode r.genStart.isSome + 4096 * flagCode r.genEnd.isSome + 8192 * flagCode r.generation.isSome

/-- A number's word, 0 when the field is absent. -/
def fieldWord (f : Option Nat) : Word := BitVec.ofNat 16 (f.getD 0)

/-- Bits 0 to 15 of a 32-bit field, 0 when it is absent. -/
def fieldLow (f : Option Word32) : Word := lowWord (f.getD 0)

/-- Bits 16 to 31 of a 32-bit field, 0 when it is absent. -/
def fieldHigh (f : Option Word32) : Word := highWord (f.getD 0)

/-- READ or CHECK, by its code: the commands whose counts are laid out with a ninth bit (R179). -/
def Completion.isReadOrCheck (r : Completion) : Bool := decide (r.code = 0x01) || decide (r.code = 0x02)

/-- ANSWER0 of a popped record. -/
def Completion.word0 (r : Completion) : Word :=
  BitVec.ofNat 16
    (r.tag.toNat + 256 * r.code + 8192 * (match r.partition with | none => 0 | some i => i.val))

/-- ANSWER1 of a popped record: status, presence word, and the ninth bits of READ and CHECK. -/
def Completion.word1 (r : Completion) : Word :=
  BitVec.ofNat 16
    (r.status.code + r.presence +
      (if r.isReadOrCheck then
        16384 * (r.sectorsDone.getD 0 / 256 % 2) + 32768 * (r.blankMet.getD 0 / 256 % 2) else 0))

/-- ANSWER2 of a popped record, by its command. -/
def Completion.word2 (r : Completion) : Word :=
  match r.code with
  | 0x01 | 0x02 => BitVec.ofNat 16 (r.sectorsDone.getD 0 % 256 + 256 * (r.blankMet.getD 0 % 256))
  | 0x03 | 0x04 | 0x05 => fieldWord r.sectorsDone
  | 0x06 | 0x08 | 0x09 | 0x0A => fieldLow r.generation
  | _ => 0

/-- ANSWER3 of a popped record, by its command. -/
def Completion.word3 (r : Completion) : Word :=
  match r.code with
  | 0x01 | 0x03 => fieldWord r.failAt
  | 0x02 => fieldWord r.firstDamaged
  | 0x05 => fieldLow r.generation
  | 0x06 | 0x08 | 0x09 | 0x0A => fieldHigh r.generation
  | _ => 0

/-- ANSWER4 of a popped record, by its command. -/
def Completion.word4 (r : Completion) : Word :=
  match r.code with
  | 0x01 => fieldLow r.genStart
  | 0x02 => fieldWord r.damagedMet
  | 0x05 => fieldHigh r.generation
  | _ => 0

/-- The eight answer words of a popped record (R179). -/
def Completion.words (r : Completion) : Vector Word 8 :=
  #v[r.word0, r.word1, r.word2, r.word3, r.word4,
     if r.code = 0x01 then fieldHigh r.genStart else 0,
     if r.code = 0x01 then fieldLow r.genEnd else 0,
     if r.code = 0x01 then fieldHigh r.genEnd else 0]

/-! ### INFO (R181) -/

/-- The table state's number in the part record. -/
def TableState.code : TableState → Nat
  | .free => 0
  | .claimed _ _ _ _ => 1
  | .committing _ _ _ => 2
  | .updating _ => 3

/-- The holder, or the job port (R39, R40). -/
def TableState.port : TableState → Option Port
  | .free => none
  | .claimed h _ _ _ => some h
  | .committing h _ _ => some h
  | .updating j => some j

/-- The array power state's number (R181). -/
def PowerState.code : PowerState → Nat
  | .ready => 0
  | .standby => 1
  | .waking => 2

/-- The part record. -/
def State.partRecord (s : State) : Vector Word 8 :=
  #v[BitVec.ofNat 16 codeDone,
     BitVec.ofNat 16 (Config.familyCode + 256 * Config.revision),
     BitVec.ofNat 16 Config.sectorCount,
     BitVec.ofNat 16
       (Config.poolSize + 256 * flagCode (decide (s.part = .ready)) + 512 * flagCode s.held +
         1024 * flagCode s.live.recovery.isSome + 2048 * s.tableState.code + 8192 * portCode s.tableState.port),
     lowWord s.live.generation, highWord s.live.generation,
     BitVec.ofNat 16 (s.power.code + 256 * s.interval), 0]

/-- The staged table, for the port that is the holder in CLAIMED or COMMITTING (R46). -/
def State.stagedFor (s : State) (p : Port) : Option Table :=
  match s.tableState with
  | .claimed h staged _ _ => if h = p then some staged else none
  | .committing h staged _ => if h = p then some staged else none
  | .free => none
  | .updating _ => none

/-- Bits 0 to 7 of ANSWER1 of a partition record. -/
def Record.flags (r : Record) : Nat :=
  match r with
  | none => 0
  | some x =>
    1 + 2 * portCode x.writer + 8 * portSetCode x.readers +
      (match x.lock with
       | none => 0
       | some l => 64 + (match l.mode with | .standard => 0 | .strict => 128))

/-- The partition record of an index, from the staged table for the holder and the live table otherwise; the change
count and the open set come from the live side (R46, R181). -/
def State.partitionRecord (s : State) (p : Port) (i : Index) : Vector Word 8 :=
  let staged := s.stagedFor p
  let r : Record := match staged with
    | some t => t.records[i]
    | none => s.record i
  let first := match r with | none => 0 | some x => x.firstBlock
  let blocks := match r with | none => 0 | some x => x.blockCount
  #v[BitVec.ofNat 16 codeDone,
     BitVec.ofNat 16 (Record.flags r + 256 * portSetCode s.openSets[i] + 2048 * flagCode staged.isSome),
     BitVec.ofNat 16 first, BitVec.ofNat 16 blocks, BitVec.ofNat 16 (first * Config.blockSectors),
     lowWord s.counts[i], highWord s.counts[i], 0]

end Sys2Proof.Machine
end

