-- ==== Sys2Proof/Machine/Claims.lean ====
section
/-! DEFINITION. The claim and its lease (R42 to R45), the four edits of the staged table (R46 to R51), and the hold
(R156, R157). All are immediate: answered at once, against the state as it stands (R176). -/

namespace Sys2Proof.Machine

/-- The eight indices. -/
def allIndices : List Index := [0, 1, 2, 3, 4, 5, 6, 7]

/-! ### CLAIM and DISCARD -/

/-- DONE to CLAIM, with the live generation (R178). -/
def State.claimDone (s : State) : Vector Word 8 :=
  answerWith2 codeDone (lowWord s.live.generation) (highWord s.live.generation)

/-- The effect of CLAIM, case by case in the order of R42. -/
def State.claim (s : State) (p : Port) : State :=
  let lease := (s.port p).param 0
  if s.part = .loading then s.answer p (answerCode codeNotReady)
  else if lease = 0 ∨ 255 < lease then s.answer p (answerCode codeBadParam)
  else if s.held then s.answer p (answerCode codeHoldActive)
  else match s.tableState with
    | .free => { s with tableState := .claimed p s.live lease 0 }.answer p s.claimDone
    | .claimed h staged _ _ =>
      if h = p then { s with tableState := .claimed p staged lease 0 }.answer p s.claimDone
      else s.answer p (answerWith codeClaimed (BitVec.ofNat 16 (portCode (some h))))
    | .committing _ _ _ => s.answer p (answerCode codeTableBusy)
    | .updating _ => s.answer p (answerCode codeTableBusy)

/-- The effect of DISCARD (R45). -/
def State.discard (s : State) (p : Port) : State :=
  if s.part = .loading then s.answer p (answerCode codeNotReady)
  else match s.tableState with
    | .claimed h _ _ _ =>
      if h = p then { s with tableState := .free }.answer p (answerCode codeDone)
      else s.answer p (answerCode codeNotHolder)
    | .committing h _ _ =>
      if h = p then s.answer p (answerCode codeTableBusy) else s.answer p (answerCode codeNotHolder)
    | .free => s.answer p (answerCode codeNotHolder)
    | .updating _ => s.answer p (answerCode codeNotHolder)

/-! ### The edits -/

/-- An edit: it passes the gate of R47 and is then judged on the staged table as it stands; `f` gives the refusing
answer or the changed table. -/
def State.edit (s : State) (p : Port) (f : Table → Nat ⊕ Table) : State :=
  if s.part = .loading then s.answer p (answerCode codeNotReady)
  else match s.tableState with
    | .claimed h staged lease t =>
      if h = p then
        match f staged with
        | .inl code => s.answer p (answerCode code)
        | .inr new => { s with tableState := .claimed h new lease t }.answer p (answerCode codeDone)
      else s.answer p (answerCode codeNotHolder)
    | .committing h _ _ =>
      if h = p then s.answer p (answerCode codeTableBusy) else s.answer p (answerCode codeNotHolder)
    | .free => s.answer p (answerCode codeNotHolder)
    | .updating _ => s.answer p (answerCode codeNotHolder)

/-- A table with one record replaced. -/
def Table.withRecord (t : Table) (i : Index) (r : Record) : Table := { t with records := t.records.set i r }

/-- One of the blocks lo to hi - 1 belongs to the record. -/
def Record.hasBlockIn (r : Record) (lo hi : Nat) : Bool :=
  match r with
  | none => false
  | some x => decide (lo < hi) && decide (lo < x.firstBlock + x.blockCount) && decide (x.firstBlock < hi)

/-- One of the blocks lo to hi - 1 belongs to a defined record other than i (R48, R50). -/
def Table.overlaps (t : Table) (i : Index) (lo hi : Nat) : Bool :=
  allIndices.any fun j => decide (j ≠ i) && Record.hasBlockIn t.records[j] lo hi

/-- The writer is among the readers (R20). -/
def writerReads (writer : Option Port) (readers : PortSet) : Bool :=
  match writer with
  | none => false
  | some p => readers.get p

/-- DEFINE on a table (R48). -/
def Table.define (t : Table) (index first count writer readers : Nat) : Nat ⊕ Table :=
  match indexOf index with
  | none => .inl codeBadParam
  | some i =>
    if (t.records[i]).isSome then .inl codeDefined
    else match writerOf writer, portSetOf readers with
      | some w, some r =>
        if first < 2 ∨ 1023 < first ∨ count < 1 ∨ 1022 < count ∨ 1024 < first + count ∨ writerReads w r = true then
          .inl codeBadParam
        else if t.overlaps i first (first + count) then .inl codeOverlap
        else .inr (t.withRecord i
          (some { firstBlock := first, blockCount := count, writer := w, readers := r, lock := none }))
      | _, _ => .inl codeBadParam

/-- DELETE on a table (R49). -/
def Table.delete (t : Table) (index : Nat) : Nat ⊕ Table :=
  match indexOf index with
  | none => .inl codeBadParam
  | some i => if (t.records[i]).isNone then .inl codeNotDefined else .inr (t.withRecord i none)

/-- RESIZE on a table (R50). -/
def Table.resize (t : Table) (index count : Nat) : Nat ⊕ Table :=
  match indexOf index with
  | none => .inl codeBadParam
  | some i =>
    match t.records[i] with
    | none => .inl codeNotDefined
    | some x =>
      if count < 1 ∨ 1022 < count ∨ 1024 < x.firstBlock + count then .inl codeBadParam
      else if t.overlaps i (x.firstBlock + x.blockCount) (x.firstBlock + count) then .inl codeOverlap
      else .inr (t.withRecord i (some { x with blockCount := count }))

/-- MODIFY on a table (R51). -/
def Table.modify (t : Table) (index writer readers : Nat) : Nat ⊕ Table :=
  match indexOf index with
  | none => .inl codeBadParam
  | some i =>
    match t.records[i] with
    | none => .inl codeNotDefined
    | some x =>
      match writerOf writer, portSetOf readers with
      | some w, some r =>
        if writerReads w r then .inl codeBadParam
        else .inr (t.withRecord i (some { x with writer := w, readers := r }))
      | _, _ => .inl codeBadParam

/-- The effect of DEFINE: PARAM0 index, PARAM1 first_block, PARAM2 block_count, PARAM3 writer, PARAM4 readers (R177). -/
def State.define (s : State) (p : Port) : State :=
  let u := s.port p
  s.edit p fun t => t.define (u.param 0) (u.param 1) (u.param 2) (u.param 3) (u.param 4)

/-- The effect of DELETE: PARAM0 index (R177). -/
def State.delete (s : State) (p : Port) : State :=
  let u := s.port p
  s.edit p fun t => t.delete (u.param 0)

/-- The effect of RESIZE: PARAM0 index, PARAM1 block_count (R177). -/
def State.resize (s : State) (p : Port) : State :=
  let u := s.port p
  s.edit p fun t => t.resize (u.param 0) (u.param 1)

/-- The effect of MODIFY: PARAM0 index, PARAM1 writer, PARAM2 readers (R177). -/
def State.modify (s : State) (p : Port) : State :=
  let u := s.port p
  s.edit p fun t => t.modify (u.param 0) (u.param 1) (u.param 2)

/-! ### HOLD -/

/-- The effect of HOLD, in the order of R156. -/
def State.takeHold (s : State) (p : Port) : State :=
  if s.part = .loading then s.answer p (answerCode codeNotReady)
  else if s.held then s.answer p (answerCode codeDone)
  else match s.tableState with
    | .free => { s with held := true }.answer p (answerCode codeDone)
    | .claimed _ _ _ _ => s.answer p (answerCode codeTableBusy)
    | .committing _ _ _ => s.answer p (answerCode codeTableBusy)
    | .updating _ => s.answer p (answerCode codeTableBusy)

/-! ### Meanings -/

/-- CLAIM (R42). -/
def execClaim (p : Port) (s : State) : Host.Outcome State Fault Refusal := .next (s.onWrite p 0 fun s => s.claim p)

/-- DISCARD (R45). -/
def execDiscard (p : Port) (s : State) : Host.Outcome State Fault Refusal := .next (s.onWrite p 0 fun s => s.discard p)

/-- DEFINE (R47, R48). -/
def execDefine (p : Port) (s : State) : Host.Outcome State Fault Refusal := .next (s.onWrite p 0 fun s => s.define p)

/-- DELETE (R47, R49). -/
def execDelete (p : Port) (s : State) : Host.Outcome State Fault Refusal := .next (s.onWrite p 0 fun s => s.delete p)

/-- RESIZE (R47, R50). -/
def execResize (p : Port) (s : State) : Host.Outcome State Fault Refusal := .next (s.onWrite p 0 fun s => s.resize p)

/-- MODIFY (R47, R51). -/
def execModify (p : Port) (s : State) : Host.Outcome State Fault Refusal := .next (s.onWrite p 0 fun s => s.modify p)

/-- HOLD (R156). -/
def execHold (p : Port) (s : State) : Host.Outcome State Fault Refusal := .next (s.onWrite p 0 fun s => s.takeHold p)

end Sys2Proof.Machine
end

