-- ==== Sys2Proof/Machine/TableOps.lean ====
section
/-! DEFINITION. The table image and the judging of a slot (R20, R22, R23), the choice of the start-up load (R36), and
the two ends of a table segment: the switchover (R30 to R34) and the table fault (R28, R54). -/

namespace Sys2Proof.Machine

/-! ### Validity (R19, R20) -/

/-- The fields of a defined record lie in their ranges, and its writer is not among its readers (R19, R20). -/
def Partition.inRange (x : Partition) : Bool :=
  decide (2 ≤ x.firstBlock) && decide (x.firstBlock ≤ 1023) && decide (1 ≤ x.blockCount) &&
    decide (x.blockCount ≤ 1022) && decide (x.firstBlock + x.blockCount ≤ 1024) && !writerReads x.writer x.readers

/-- One record of a valid table: in its ranges, and sharing no block with another defined record. -/
def Table.recordValid (t : Table) (i : Index) : Bool :=
  match t.records[i] with
  | none => true
  | some x => x.inRange && !t.overlaps i x.firstBlock (x.firstBlock + x.blockCount)

/-- A table is valid (R20). -/
def Table.valid (t : Table) : Bool := allIndices.all t.recordValid

/-! ### The table image (R22) -/

/-- The header sector of a table's image. -/
def Table.headerSector (t : Table) : HeaderSector :=
  { mark := Config.headerMark, generation := t.generation, recovery := t.recovery,
    check := Config.headerCheck Config.headerMark t.generation t.recovery }

/-- The records sector of a table's image. -/
def Table.recordsSector (t : Table) : RecordsSector :=
  { generation := t.generation, records := t.records, check := Config.recordsCheck t.generation t.records }

/-- The header sector carries the identifying mark, and its check value is good. -/
def HeaderSector.good (h : HeaderSector) : Bool :=
  decide (h.mark = Config.headerMark) && decide (h.check = Config.headerCheck h.mark h.generation h.recovery)

/-- The check value of a records sector is good. -/
def RecordsSector.good (r : RecordsSector) : Bool := decide (r.check = Config.recordsCheck r.generation r.records)

/-- The table of a slot, judged from its two sector reads; absent when the slot is not valid (R23). Bytes that a WRITE
placed are no table image (log 10). -/
def slotTable (first second : ReadReport) : Option Table :=
  match first, second with
  | .data (.header h), .data (.records r) =>
    let t : Table := { generation := h.generation, recovery := h.recovery, records := r.records }
    if h.good && r.good && decide (h.generation = r.generation) && t.valid then some t else none
  | _, _ => none

/-- The live table and the current slot that the load builds from the two slots (R36). -/
def loadChoice (t0 t1 : Option Table) : Table × Fin 2 :=
  match t0, t1 with
  | some x, some y => if x.generation.toNat < y.generation.toNat then (y, 1) else (x, 0)
  | some x, none => (x, 0)
  | none, some y => (y, 1)
  | none, none => (Table.empty, 1)

/-- The sector that the load reads after k reads: sectors 0 and 1 of block 0, then of block 1 (R35). -/
def loadSector (k : Nat) : Nat := (k / 2) * Config.blockSectors + k % 2

/-! ### The switchover (R30 to R34) -/

/-- The ports of an open set that are permitted on a partition. -/
def PortSet.permitted (o : PortSet) (x : Partition) : PortSet := o.mapPorts fun p held => held && x.permits p

/-- The open set of an index after a switchover; `setter` is the port of a SET KEY of this index that has not been
reset since (R32). A SET KEY removed by its port's reset that repeats the present key and key_mode is the model's choice
(log 33): R32's line "key and key_mode as before" decides, so the other members stay, where R150 and R158 say of a removed
SET KEY that the open set is then empty. -/
def alignOpen (old new : Record) (o : PortSet) (setter : Option Port) : PortSet :=
  match new with
  | none => PortSet.empty
  | some x =>
    match x.lock with
    | none => PortSet.empty
    | some l =>
      if old.bind Partition.lock = some l then o.permitted x
      else match setter with
        | none => PortSet.empty
        | some p => if x.permits p then PortSet.single p else PortSet.empty

/-- The port whose SET KEY of this index owns the table segment, unless it has been reset (R32). -/
def Segment.setter (g : Segment) (i : Index) : Option Port :=
  match g.cmd with
  | .setKey j _ _ => if i = j ∧ g.removed = false then some g.port else none
  | _ => none

/-- The change count of an index after a switchover (R33). -/
def alignCount (old new : Record) (count : Word32) : Word32 :=
  if old.isSome && new.isSome then count else 0

/-- The ACTIVE entry of a port ends at a switchover: it acts on a partition whose record differs, and it is not the
owner of the table segment (R31). -/
def State.endsAtSwitchover (s : State) (g : Segment) (new : Table) (q : Port) : Bool :=
  (decide (q ≠ g.port) || g.removed) &&
  match (s.port q).activeEntry with
  | none => false
  | some (e, _) =>
    match e.cmd.actsOn with
    | none => false
    | some i => decide (s.live.records[i] ≠ new.records[i])

/-- One port's part of the ends of R31. -/
def State.endIfChanged (s : State) (g : Segment) (new : Table) (q : Port) : State :=
  if s.endsAtSwitchover g new q then s.finish q .partitionChanged else s

/-- The ports' ACTIVE commands that a switchover ends (R31). -/
def State.endChanged (s : State) (g : Segment) (new : Table) : State :=
  ((s.endIfChanged g new .a).endIfChanged g new .b).endIfChanged g new .c

/-- The new table becomes live and what depends on it is brought into line (R30, R32, R33, R34); the table state
becomes FREE (R54). -/
def State.makeLive (s : State) (g : Segment) (new : Table) : State :=
  { s with
    live := new,
    currentSlot := otherSlot s.currentSlot,
    tableState := .free,
    openSets := Vector.ofFn fun i => alignOpen s.live.records[i] new.records[i] s.openSets[i] (g.setter i),
    counts := Vector.ofFn fun i => alignCount s.live.records[i] new.records[i] s.counts[i],
    ports := s.ports.mapPorts fun q u =>
      if q = g.port then u else { u with latched := { u.latched with table := true } } }

/-- The end of a table segment whose two programs were written: the switchover, and then the owner's completion
unless its port has been reset (R29, R30, R54). -/
def State.switchover (s : State) (g : Segment) (new : Table) : State :=
  let s1 := (s.endChanged g new).makeLive g new
  if g.removed then s1 else s1.finish g.port .ok

/-- The end of a table segment in a table fault (R28, R54): nothing of the table changes. The owner ends COMMIT_FAULT,
or, when its port has been reset, the table state becomes FREE (R57, R58). -/
def State.tableFault (s : State) (p : Port) (cmd : QueuedCommand) (removed : Bool) : State :=
  if removed then { s with tableState := .free } else (s.leaveTableState cmd).finish p .commitFault

end Sys2Proof.Machine
end

