-- ==== Sys2Proof/Machine/Grant.lean ====
section
/-! DEFINITION. The grant of a segment (R72): what each command does when its segment goes in flight (R92, R93, R109,
R119, R124, R130, R134), and the refusal of a table segment at the last generation (R27). -/

namespace Sys2Proof.Machine

/-- A buffer taken from the pool joins the tail of the transfer list (R88). -/
def PortUnit.takeBuffer (u : PortUnit) (b : Buffer) : PortUnit := { u with transfers := u.transfers ++ [b] }

/-- What the grant does at the port: a READ takes a buffer and notes its sector (R93, R109); a WRITE's oldest buffer
becomes IN_ARRAY (R92, R124); the next sector or block rises (R119, R130, R134); a table segment is no longer due. R109
gives the blank mark no value before the sector read ends; no is the model's choice (log 35). -/
def PortUnit.mount (u : PortUnit) (pr : Progress) : PortUnit :=
  match pr with
  | .read r =>
    (u.takeBuffer { state := .inArray, data := [], sector := some r.nextSector, blankMark := false }).setProgress
      (.read { r with nextSector := r.nextSector + 1 })
  | .check c => u.setProgress (.check { c with nextSector := c.nextSector + 1 })
  | .write _ =>
    match u.transfers with
    | [] => u
    | b :: rest => { u with transfers := { b with state := .inArray } :: rest }
  | .blank b => u.setProgress (.blank { b with nextBlock := b.nextBlock + 1 })
  | .wipe w =>
    u.setProgress (.wipe (if w.tableDue then { w with tableDue := false } else { w with nextBlock := w.nextBlock + 1 }))
  | .job _ => u.setProgress (.job false)

/-- A table segment that is refused: no generation beyond the last is written (R27). -/
def State.refusesTable (s : State) (w : Work) : Bool :=
  match w with
  | .tableBlank _ => decide (s.live.generation = Config.lastGeneration)
  | .readSector _ => false
  | .programSector _ _ => false
  | .blankBlock _ => false
  | .tableHeader _ => false
  | .tableRecords _ => false

/-- The arbiter may grant now (R72): no segment in flight, the part READY, the array READY. -/
def State.mayGrant (s : State) : Bool := s.inFlight.isNone && decide (s.part = .ready) && decide (s.power = .ready)

/-- The grant of a segment to a port. A refused table segment has ended with its grant, so the standby timer that ran
before it is stopped and may start again from zero (R11). -/
def State.grant (s : State) (p : Port) (e : Entry) (a : Active) (w : Work) : State :=
  if s.refusesTable w then ({ s with lastGranted := p, standbyTimer := none }.tableFault p e.cmd false).settle
  else
    ({ s with lastGranted := p,
              inFlight := some (.segment { port := p, cmd := e.cmd, removed := false, work := w }) }.updPort p
      fun u => u.mount a.progress).settle

/-- SEGMENT_GRANT (R72): the first eligible port after the last granted one gets its segment. Nothing happens while
the arbiter may not grant or no command is eligible. -/
def execSegmentGrant (s : State) : Host.Outcome State Fault Refusal :=
  if s.mayGrant then
    match s.grantee with
    | none => .next s
    | some p =>
      match s.nextWork p with
      | none => .next s
      | some (e, a, w) => if w.inArray then .next (s.grant p e a w) else .fault .noSuchSector
  else .next s

end Sys2Proof.Machine
end

