-- ==== Sys2Proof/WellFormed.lean ====
section
/-! DEFINITION. Which commands are spelled as their rows say. BAD_COMMAND is a write of ISSUE whose code is not one of
the part's codes (R62), and REGISTER_WRITE a write of a location that has no behaviour of its own (R171). -/

namespace Sys2Proof

/-- The command codes of the part (R177): 0x01 to 0x0A are queued, 0x10 to 0x1E immediate. -/
def isCommandCode (code : Nat) : Bool :=
  (1 ≤ code && code ≤ 0x0A) || (0x10 ≤ code && code ≤ 0x1E)

/-- The command code of an ISSUE word, bits 8 to 15 (R176). -/
def issueCode (word : Word) : Nat := word.toNat / 256

/-- The locations that have a behaviour on a write: ISSUE, DATA, EVENTS and EVENT_ENABLE (R171). -/
def hasOwnWrite (loc : Nat) : Bool := loc = 0 || loc = 21 || loc = 22 || loc = 23

/-- The operands are the row's own. -/
def Instr.wf : Instr → Bool
  | .badCommand _ word => !isCommandCode (issueCode word)
  | .registerWrite _ loc _ => !hasOwnWrite loc
  | .read _ _ | .check _ _ | .write _ _ | .blank _ _ | .wipe _ _ | .commit _ _ | .openKey _ _ | .setKey _ _
  | .clearKey _ _ | .setRecovery _ _ | .claim _ | .discard _ | .define _ | .delete _ | .resize _ | .modify _
  | .close _ | .hold _ | .stageKey _ | .abort _ | .pop _ | .watch _ | .notices _ | .infoPart _ | .infoPartition _
  | .setup _ | .dataWrite _ _ | .dataRead _ | .eventsWrite _ _ | .eventEnableWrite _ _ | .commandStart _
  | .segmentGrant | .readSectorReadEnd | .checkSectorReadEnd | .writeProgramEnd _ | .blankBlockEnd | .wipeBlockEnd
  | .tableBlockBlankEnd | .tableHeaderProgramEnd _ | .tableRecordsProgramEnd _ | .loadReadEnd | .standbyTimerExpiry
  | .wakeEnd | .leaseExpiry | .stallExpiry _ | .portReset _ | .portResetRelease _ | .partReset _ | .partResetRelease
  | .powerOn _ | .powerLoss _ | .frameByte _ | .frameEnd => true

end Sys2Proof
end

