-- ==== Sys2Proof/Decode.lean ====
section
/-! DEFINITION. The reading of an ISSUE word (R176, R177) and its writing. The rows of spec/opcode_table.json give no
bits, so no table word spells a command. -/

namespace Sys2Proof

/-- No row of the table gives bits: no word of the table's numbering spells a command. -/
def decodeTableWord (_nbits _w : Nat) : Option Instr := none

/-- The tag of an ISSUE word, bits 0 to 7 (R176). -/
def issueTag (word : Word) : Byte := word.setWidth 8

/-- The command that an ISSUE word names at port p, by the codes of R177. INFO (0x1D) is two rows, told apart by its
selector, PARAM0: 8 asks for the part record (R181). -/
def decodeIssue (p : Port) (selector word : Word) : Instr :=
  match issueCode word with
  | 0x01 => .read p (issueTag word)
  | 0x02 => .check p (issueTag word)
  | 0x03 => .write p (issueTag word)
  | 0x04 => .blank p (issueTag word)
  | 0x05 => .wipe p (issueTag word)
  | 0x06 => .commit p (issueTag word)
  | 0x07 => .openKey p (issueTag word)
  | 0x08 => .setKey p (issueTag word)
  | 0x09 => .clearKey p (issueTag word)
  | 0x0A => .setRecovery p (issueTag word)
  | 0x10 => .claim p
  | 0x11 => .discard p
  | 0x12 => .define p
  | 0x13 => .delete p
  | 0x14 => .resize p
  | 0x15 => .modify p
  | 0x16 => .close p
  | 0x17 => .hold p
  | 0x18 => .stageKey p
  | 0x19 => .abort p
  | 0x1A => .pop p
  | 0x1B => .watch p
  | 0x1C => .notices p
  | 0x1D => if selector = 8 then .infoPart p else .infoPartition p
  | 0x1E => .setup p
  | _ => .badCommand p word

/-- An ISSUE word from its code and tag (R176). -/
def issueWordOf (code : Nat) (tag : Byte) : Word := BitVec.ofNat 16 (code * 256 + tag.toNat)

/-- The port and the ISSUE word of an issue; an immediate command, which ignores the tag, is written with tag 0. -/
def encodeIssue : Instr → Option (Port × Word)
  | .read p tag => some (p, issueWordOf 0x01 tag)
  | .check p tag => some (p, issueWordOf 0x02 tag)
  | .write p tag => some (p, issueWordOf 0x03 tag)
  | .blank p tag => some (p, issueWordOf 0x04 tag)
  | .wipe p tag => some (p, issueWordOf 0x05 tag)
  | .commit p tag => some (p, issueWordOf 0x06 tag)
  | .openKey p tag => some (p, issueWordOf 0x07 tag)
  | .setKey p tag => some (p, issueWordOf 0x08 tag)
  | .clearKey p tag => some (p, issueWordOf 0x09 tag)
  | .setRecovery p tag => some (p, issueWordOf 0x0A tag)
  | .badCommand p word => some (p, word)
  | .claim p => some (p, issueWordOf 0x10 0)
  | .discard p => some (p, issueWordOf 0x11 0)
  | .define p => some (p, issueWordOf 0x12 0)
  | .delete p => some (p, issueWordOf 0x13 0)
  | .resize p => some (p, issueWordOf 0x14 0)
  | .modify p => some (p, issueWordOf 0x15 0)
  | .close p => some (p, issueWordOf 0x16 0)
  | .hold p => some (p, issueWordOf 0x17 0)
  | .stageKey p => some (p, issueWordOf 0x18 0)
  | .abort p => some (p, issueWordOf 0x19 0)
  | .pop p => some (p, issueWordOf 0x1A 0)
  | .watch p => some (p, issueWordOf 0x1B 0)
  | .notices p => some (p, issueWordOf 0x1C 0)
  | .infoPart p => some (p, issueWordOf 0x1D 0)
  | .infoPartition p => some (p, issueWordOf 0x1D 0)
  | .setup p => some (p, issueWordOf 0x1E 0)
  | .dataWrite _ _ | .dataRead _ | .eventsWrite _ _ | .eventEnableWrite _ _ | .registerWrite _ _ _ | .commandStart _
  | .segmentGrant | .readSectorReadEnd | .checkSectorReadEnd | .writeProgramEnd _ | .blankBlockEnd | .wipeBlockEnd
  | .tableBlockBlankEnd | .tableHeaderProgramEnd _ | .tableRecordsProgramEnd _ | .loadReadEnd | .standbyTimerExpiry
  | .wakeEnd | .leaseExpiry | .stallExpiry _ | .portReset _ | .portResetRelease _ | .partReset _ | .partResetRelease
  | .powerOn _ | .powerLoss _ | .frameByte _ | .frameEnd => none

end Sys2Proof
end

