-- ==== Sys2Proof/Machine/Flags.lean ====
section
/-! DEFINITION. What a port's processor sees at once: the six events and ATTN (R163 to R165), XFER (R100, R101),
PORT_STATUS (R40, R172) and the reads of the window that have no effect (R171). -/

namespace Sys2Proof.Machine

/-- The six events as the bits of EVENTS: DONE, NOTICE, TABLE, CLAIM_LOST, DATA_REFUSED, READY (R163, R171). DONE and
NOTICE follow the completion queue and the notice set. -/
def PortUnit.events (u : PortUnit) : Nat :=
  flagCode (!u.completions.isEmpty) + 2 * flagCode (decide (u.notice ≠ 0)) + 4 * flagCode u.latched.table +
  8 * flagCode u.latched.claimLost + 16 * flagCode u.latched.dataRefused + 32 * flagCode u.latched.ready

/-- Outputs are driven: a port whose PRST, or the RESET input, is asserted negates ATTN and XFER (R182, R183),
and so does a part without supply (log 15). -/
def State.drives (s : State) (p : Port) : Bool := s.takesAccess p

/-- ATTN: some event is both set and enabled (R165). -/
def State.attn (s : State) (p : Port) : Bool :=
  s.drives p && decide (BitVec.ofNat 6 (s.port p).events &&& (s.port p).enables ≠ 0)

/-- The bytes of the transfer the processor has not yet moved (R100). -/
def PortUnit.remaining (u : PortUnit) : Nat :=
  match u.activeEntry with
  | none => 0
  | some (e, a) =>
    if a.abortPending then 0 else
    match e.cmd, a.progress with
    | .write _ _ count, .write _ => count * Config.sectorBytes - u.moved
    | .read _ start count, .read r =>
      (match r.failAt with | none => count | some f => f - start) * Config.sectorBytes - u.moved
    | _, _ => 0

/-- The newest buffer is FILLING; on a WRITE's list no other buffer is (R91). -/
def PortUnit.hasFilling (u : PortUnit) : Bool :=
  match u.transfers.getLast? with
  | none => false
  | some b => decide (b.state = .filling)

/-- The bytes the DATA location can move at once (R100). -/
def State.available (s : State) (p : Port) : Nat :=
  let u := s.port p
  match u.activeEntry with
  | none => 0
  | some (e, a) =>
    if a.abortPending then 0 else
    match e.cmd, a.progress with
    | .write _ _ _, .write _ =>
      if u.hasFilling then Config.sectorBytes - u.offset
      else if 0 < u.remaining ∧ s.mayTake p = true then Config.sectorBytes
      else 0
    | .read _ _ _, .read _ =>
      if u.oldestIs .draining then Config.sectorBytes - u.offset
      else if u.oldestIs .ready then Config.sectorBytes
      else 0
    | _, _ => 0

/-- XFER: at least U bytes, or the whole rest of the transfer, can be moved at once (R101). -/
def State.xfer (s : State) (p : Port) : Bool :=
  let u := s.port p
  s.drives p &&
    (decide (u.transferUnit ≤ s.available p) ||
      (decide (u.remaining < u.transferUnit) && decide (u.remaining ≤ s.available p) && decide (0 < u.remaining)))

/-- The table state as seen from a port: FREE, CLAIMED HERE, CLAIMED ELSEWHERE, COMMITTING, UPDATING (R40, R172). -/
def State.tableView (s : State) (p : Port) : Nat :=
  match s.tableState with
  | .free => 0
  | .claimed h _ _ _ => if h = p then 1 else 2
  | .committing _ _ _ => 3
  | .updating _ => 4

/-- PORT_STATUS (R172). -/
def State.portStatus (s : State) (p : Port) : Word :=
  let u := s.port p
  BitVec.ofNat 16
    (u.queue.length + 8 * u.completions.length + 128 * flagCode (s.xfer p) +
      256 * flagCode (decide (s.part = .ready)) + 512 * s.tableView p + 4096 * flagCode u.activeEntry.isSome)

/-- What a read of a location other than DATA returns (R171); 0 while the port takes no access (R173; without supply,
log 15). -/
def State.windowRead (s : State) (p : Port) (loc : Nat) : Word :=
  let u := s.port p
  if s.takesAccess p then
    if h : 1 ≤ loc ∧ loc ≤ 12 then u.params[loc - 1]
    else if h : 13 ≤ loc ∧ loc ≤ 20 then u.answers[loc - 13]
    else if loc = 22 then BitVec.ofNat 16 u.events
    else if loc = 23 then u.enables.setWidth 16
    else if loc = 24 then s.portStatus p
    else 0
  else 0

end Sys2Proof.Machine
end

