-- ==== Sys2Proof/Machine/Immediate.lean ====
section
/-! DEFINITION. The other immediate commands: CLOSE (R148), STAGE KEY (R153), ABORT (R75 to R78), POP (R161), WATCH and
NOTICES (R168, R170), INFO (R181) and SETUP (R180). -/

namespace Sys2Proof.Machine

/-! ### Keys -/

/-- The effect of CLOSE: PARAM0 partition (R148). -/
def State.close (s : State) (p : Port) : State :=
  if s.part = .loading then s.answer p (answerCode codeNotReady)
  else match indexOf ((s.port p).param 0) with
    | none => s.answer p (answerCode codeBadParam)
    | some i =>
      { s with openSets := s.openSets.set i ((s.openSets[i]).set p false) }.answer p
        (answerWith codeDone (BitVec.ofNat 16 (flagCode ((s.openSets[i]).get p))))

/-- The effect of STAGE KEY (R153). -/
def State.stageKey (s : State) (p : Port) : State :=
  s.updPort p fun u =>
    { u with keyStage := if u.paramKey = Key.zero then none else some u.paramKey, answers := answerCode codeDone }

/-! ### ABORT -/

/-- ABORT of an ACTIVE entry: with a segment of it in flight it becomes abort pending (R77), else it ends ABORTED at
once (R76) and a table job leaves the table state (R41, R55). -/
def State.abortActive (s : State) (p : Port) (e : Entry) (a : Active) : State :=
  if s.ownSegment p then s.updPort p fun u => u.setActive { a with abortPending := true }
  else (s.finish p .aborted).leaveTableState e.cmd

/-- The effect of ABORT: PARAM0 tag (R75 to R78). A QUEUED entry is removed without a record. -/
def State.abort (s : State) (p : Port) : State :=
  match tagOf ((s.port p).param 0) with
  | none => s.answer p (answerCode codeBadParam)
  | some tag =>
    match (s.port p).queue.find? fun e => decide (e.tag = tag) with
    | none => s.answer p (answerCode codeNotFound)
    | some e =>
      match e.active with
      | none =>
        (s.updPort p fun u => { u with queue := u.queue.eraseP fun e => decide (e.tag = tag) }).answer p
          (answerCode codeDone)
      | some a => ((s.abortActive p e a).answer p (answerCode codeDone)).settle

/-! ### Completions and notices -/

/-- POP at a port unit (R161). -/
def PortUnit.pop (u : PortUnit) : PortUnit :=
  match u.completions with
  | [] => { u with answers := answerCode codeEmpty }
  | r :: rest => { u with completions := rest, answers := r.words }

/-- The effect of WATCH: PARAM0 partition set (R168). -/
def State.watch (s : State) (p : Port) : State :=
  if s.part = .loading then s.answer p (answerCode codeNotReady)
  else match indexSetOf ((s.port p).param 0) with
    | none => s.answer p (answerCode codeBadParam)
    | some ws =>
      s.updPort p fun u => { u with watch := ws, notice := u.notice &&& ws, answers := answerCode codeDone }

/-- NOTICES at a port unit (R170). -/
def PortUnit.notices (u : PortUnit) : PortUnit :=
  { u with notice := 0, answers := answerWith codeDone (u.notice.setWidth 16) }

/-! ### INFO -/

/-- The effect of an INFO: PARAM0 selector, 8 for the part record, 0 to 7 for a partition record (R181). -/
def State.info (s : State) (p : Port) : State :=
  let selector := (s.port p).param 0
  if selector = 8 then s.answer p s.partRecord
  else match indexOf selector with
    | none => s.answer p (answerCode codeBadParam)
    | some i =>
      if s.part = .loading then s.answer p (answerCode codeNotReady) else s.answer p (s.partitionRecord p i)

/-! ### SETUP -/

/-- The five values of a SETUP lie in their ranges (R180). -/
def setupInRange (unit stall vote g l : Nat) : Bool :=
  (decide (unit = 32) || decide (unit = 64) || decide (unit = 128) || decide (unit = 256) || decide (unit = 512)) &&
    decide (stall ≤ 255) && decide (vote ≤ 255) && decide (g ≤ 4) && decide (max g 1 ≤ l) && decide (l ≤ 12)

/-- The five values are taken together; a changed stall setting restarts a running stall timer (R79). -/
def PortUnit.takeSetup (u : PortUnit) (unit stall vote g l : Nat) : PortUnit :=
  { u with
    transferUnit := unit, stallSetting := stall, vote := vote, guarantee := g, limit := l,
    stallTimer := if stall = u.stallSetting then u.stallTimer else restartTimer u.stallTimer,
    answers := answerCode codeDone }

/-- A changed E restarts a running standby timer (R14). -/
def State.intervalChanged (s : State) (old : Nat) : State :=
  if s.interval = old then s else { s with standbyTimer := restartTimer s.standbyTimer }

/-- The effect of SETUP: PARAM0 U, PARAM1 stall, PARAM2 vote, PARAM3 G, PARAM4 L (R180). -/
def State.setup (s : State) (p : Port) : State :=
  let u := s.port p
  if setupInRange (u.param 0) (u.param 1) (u.param 2) (u.param 3) (u.param 4) then
    if s.poolAdmits p (u.param 3) then
      ((s.updPort p fun u => u.takeSetup (u.param 0) (u.param 1) (u.param 2) (u.param 3) (u.param 4)).intervalChanged
        s.interval).settle
    else s.answer p (answerCode codePoolBusy)
  else s.answer p (answerCode codeBadParam)

/-! ### Meanings -/

/-- CLOSE (R148). -/
def execClose (p : Port) (s : State) : Host.Outcome State Fault Refusal := .next (s.onWrite p 0 fun s => s.close p)

/-- STAGE_KEY (R153). -/
def execStageKey (p : Port) (s : State) : Host.Outcome State Fault Refusal := .next (s.onWrite p 0 fun s => s.stageKey p)

/-- ABORT (R75 to R78). -/
def execAbort (p : Port) (s : State) : Host.Outcome State Fault Refusal := .next (s.onWrite p 0 fun s => s.abort p)

/-- POP (R161). -/
def execPop (p : Port) (s : State) : Host.Outcome State Fault Refusal :=
  .next (s.onWrite p 0 fun s => s.updPort p PortUnit.pop)

/-- WATCH (R168). -/
def execWatch (p : Port) (s : State) : Host.Outcome State Fault Refusal := .next (s.onWrite p 0 fun s => s.watch p)

/-- NOTICES (R170). -/
def execNotices (p : Port) (s : State) : Host.Outcome State Fault Refusal :=
  .next (s.onWrite p 0 fun s => s.updPort p PortUnit.notices)

/-- INFO_PART (R181): an INFO, whose PARAM0 asks for the part record. -/
def execInfoPart (p : Port) (s : State) : Host.Outcome State Fault Refusal := .next (s.onWrite p 0 fun s => s.info p)

/-- INFO_PARTITION (R181): an INFO, whose PARAM0 asks for a partition record. -/
def execInfoPartition (p : Port) (s : State) : Host.Outcome State Fault Refusal :=
  .next (s.onWrite p 0 fun s => s.info p)

/-- SETUP (R180). -/
def execSetup (p : Port) (s : State) : Host.Outcome State Fault Refusal := .next (s.onWrite p 0 fun s => s.setup p)

end Sys2Proof.Machine
end

