-- ==== Sys2Proof/Machine/Issue.lean ====
section
/-! DEFINITION. The issues of the ten queued commands and of a word that names no command (R60 to R63, R176 to R178).
An issue reads the parameter words as they stand (R171) and is answered at once; nothing about the table, the keys or
the array is examined. -/

namespace Sys2Proof.Machine

/-! ### The parameters at issue (R62) -/

/-- partition, start and count of READ, CHECK and WRITE, in their ranges at issue. -/
def PortUnit.sectorRange (u : PortUnit) : Option (Index × Nat × Nat) :=
  match indexOf (u.param 0) with
  | none => none
  | some i =>
    if u.param 1 ≤ 16351 ∧ 1 ≤ u.param 2 ∧ u.param 2 ≤ 256 then some (i, u.param 1, u.param 2) else none

/-- partition, first block and count of BLANK, in their ranges at issue. -/
def PortUnit.blockRange (u : PortUnit) : Option (Index × Nat × Nat) :=
  match indexOf (u.param 0) with
  | none => none
  | some i =>
    if u.param 1 ≤ 1021 ∧ 1 ≤ u.param 2 ∧ u.param 2 ≤ 1022 then some (i, u.param 1, u.param 2) else none

/-- partition and which of WIPE and OPEN, in their ranges at issue. -/
def PortUnit.partAndWhich (u : PortUnit) : Option (Index × Which) :=
  match indexOf (u.param 0), whichOf (u.param 1) with
  | some i, some w => some (i, w)
  | _, _ => none

/-- READ as given at issue; absent when a parameter lies outside its range. -/
def PortUnit.givenRead (u : PortUnit) : Option QueuedCommand := u.sectorRange.map fun (i, start, count) => .read i start count

/-- CHECK as given at issue. -/
def PortUnit.givenCheck (u : PortUnit) : Option QueuedCommand := u.sectorRange.map fun (i, start, count) => .check i start count

/-- WRITE as given at issue. -/
def PortUnit.givenWrite (u : PortUnit) : Option QueuedCommand := u.sectorRange.map fun (i, start, count) => .write i start count

/-- BLANK as given at issue. -/
def PortUnit.givenBlank (u : PortUnit) : Option QueuedCommand := u.blockRange.map fun (i, first, count) => .blank i first count

/-- WIPE as given at issue. -/
def PortUnit.givenWipe (u : PortUnit) : Option QueuedCommand := u.partAndWhich.map fun (i, w) => .wipe i w u.paramKey

/-- OPEN as given at issue. -/
def PortUnit.givenOpen (u : PortUnit) : Option QueuedCommand := u.partAndWhich.map fun (i, w) => .openKey i w u.paramKey

/-- SET KEY as given at issue. -/
def PortUnit.givenSetKey (u : PortUnit) : Option QueuedCommand :=
  match indexOf (u.param 0), modeOf (u.param 1) with
  | some i, some m => some (.setKey i u.paramKey m)
  | _, _ => none

/-- CLEAR KEY as given at issue. -/
def PortUnit.givenClearKey (u : PortUnit) : Option QueuedCommand := (indexOf (u.param 0)).map fun i => .clearKey i u.paramKey

/-- SET RECOVERY as given at issue: the new value, and the key stage as the old value (R153). -/
def PortUnit.givenSetRecovery (u : PortUnit) : Option QueuedCommand := some (.setRecovery u.paramKey u.keyStage)

/-! ### The issue checks (R62) -/

/-- A QUEUED entry joins the tail of the queue; an accepted SET RECOVERY takes the key stage, which becomes absent
(R62, R153). -/
def PortUnit.accept (u : PortUnit) (tag : Byte) (cmd : QueuedCommand) : PortUnit :=
  { u with
    queue := u.queue ++ [{ tag := tag, cmd := cmd, active := none }],
    keyStage := match cmd with
      | .setRecovery _ _ => none
      | _ => u.keyStage,
    answers := answerWith codeAccepted (BitVec.ofNat 16 (u.queue.length + 1)) }

/-- The issue of a queued command at a port unit: QUEUE_FULL, TAG_IN_USE, BAD_PARAM or ACCEPTED (R62). -/
def PortUnit.issueQueued (u : PortUnit) (tag : Byte) (given : Option QueuedCommand) : PortUnit :=
  if Config.queueSize ≤ u.queue.length then { u with answers := answerCode codeQueueFull }
  else if u.queue.any fun e => decide (e.tag = tag) then { u with answers := answerCode codeTagInUse }
  else match given with
    | none => { u with answers := answerCode codeBadParam }
    | some cmd => u.accept tag cmd

/-- The effect of the issue of a queued command, by the command its port's parameter words give. -/
def State.issueQueued (s : State) (p : Port) (tag : Byte) (given : PortUnit → Option QueuedCommand) : State :=
  s.updPort p fun u => u.issueQueued tag (given u)

/-- The effect of an issue that names no command: BAD_COMMAND, and nothing changes elsewhere (R62). -/
def State.issueBadCommand (s : State) (p : Port) : State := s.answer p (answerCode codeBadCommand)

/-! ### Meanings -/

/-- READ (R62, R107): the issue of a READ. -/
def execRead (p : Port) (tag : Byte) (s : State) : Host.Outcome State Fault Refusal :=
  .next (s.onWrite p 0 fun s => s.issueQueued p tag PortUnit.givenRead)

/-- CHECK (R62, R118): the issue of a CHECK. -/
def execCheck (p : Port) (tag : Byte) (s : State) : Host.Outcome State Fault Refusal :=
  .next (s.onWrite p 0 fun s => s.issueQueued p tag PortUnit.givenCheck)

/-- WRITE (R62, R122): the issue of a WRITE. -/
def execWrite (p : Port) (tag : Byte) (s : State) : Host.Outcome State Fault Refusal :=
  .next (s.onWrite p 0 fun s => s.issueQueued p tag PortUnit.givenWrite)

/-- BLANK (R62, R129): the issue of a BLANK. -/
def execBlank (p : Port) (tag : Byte) (s : State) : Host.Outcome State Fault Refusal :=
  .next (s.onWrite p 0 fun s => s.issueQueued p tag PortUnit.givenBlank)

/-- WIPE (R62, R133): the issue of a WIPE. -/
def execWipe (p : Port) (tag : Byte) (s : State) : Host.Outcome State Fault Refusal :=
  .next (s.onWrite p 0 fun s => s.issueQueued p tag PortUnit.givenWipe)

/-- COMMIT (R62, R52): the issue of a COMMIT; no parameter is tested. -/
def execCommit (p : Port) (tag : Byte) (s : State) : Host.Outcome State Fault Refusal :=
  .next (s.onWrite p 0 fun s => s.issueQueued p tag fun _ => some .commit)

/-- OPEN (R62, R146): the issue of an OPEN. -/
def execOpenKey (p : Port) (tag : Byte) (s : State) : Host.Outcome State Fault Refusal :=
  .next (s.onWrite p 0 fun s => s.issueQueued p tag PortUnit.givenOpen)

/-- SET_KEY (R62, R149): the issue of a SET KEY. -/
def execSetKey (p : Port) (tag : Byte) (s : State) : Host.Outcome State Fault Refusal :=
  .next (s.onWrite p 0 fun s => s.issueQueued p tag PortUnit.givenSetKey)

/-- CLEAR_KEY (R62, R151): the issue of a CLEAR KEY. -/
def execClearKey (p : Port) (tag : Byte) (s : State) : Host.Outcome State Fault Refusal :=
  .next (s.onWrite p 0 fun s => s.issueQueued p tag PortUnit.givenClearKey)

/-- SET_RECOVERY (R62, R153): the issue of a SET RECOVERY; no parameter is tested. -/
def execSetRecovery (p : Port) (tag : Byte) (s : State) : Host.Outcome State Fault Refusal :=
  .next (s.onWrite p 0 fun s => s.issueQueued p tag PortUnit.givenSetRecovery)

end Sys2Proof.Machine
end

