-- ==== Sys2Proof/Machine/Window.lean ====
section
/-! DEFINITION. The window: the DATA location (R95 to R99), EVENTS and EVENT_ENABLE (R164, R165), the parameter words,
the whole write side of the window (R171), and port C's frames (R174). -/

namespace Sys2Proof.Machine

/-! ### DATA writes -/

/-- A refused DATA access: no data moves, DATA_REFUSED is set (R98). -/
def State.refuseData (s : State) (p : Port) : State :=
  s.updPort p fun u => { u with latched := { u.latched with dataRefused := true } }

/-- The FILLING buffer, the newest of the list, with a word placed at the window offset (R96); the 512th byte makes it
FULL, returns the offset to 0 and restarts the stall timer (R92, R95, R81). -/
def PortUnit.fill (u : PortUnit) (w : Word) : PortUnit :=
  match u.transfers.getLast? with
  | none => u
  | some b =>
    let data := b.data.take u.offset ++ [lowByte w, highByte w]
    if u.offset + 2 = Config.sectorBytes then
      { u with transfers := u.transfers.dropLast ++ [{ b with state := .full, data := data }], offset := 0,
               moved := u.moved + 2, stallTimer := restartTimer u.stallTimer }
    else
      { u with transfers := u.transfers.dropLast ++ [{ b with data := data }], offset := u.offset + 2,
               moved := u.moved + 2 }

/-- A buffer taken for a new sector joins the tail as FILLING with a word at offset 0 (R96). -/
def PortUnit.beginSector (u : PortUnit) (w : Word) : PortUnit :=
  { u with
    transfers := u.transfers ++
      [{ state := .filling, data := [lowByte w, highByte w], sector := none, blankMark := false }],
    offset := 2, moved := u.moved + 2 }

/-- The effect of a DATA write (R96, R98). -/
def State.dataWrite (s : State) (p : Port) (w : Word) : State :=
  match (s.port p).activeEntry with
  | none => s.refuseData p
  | some (e, a) =>
    match e.cmd with
    | .write _ _ count =>
      if !a.abortPending && decide ((s.port p).moved < count * Config.sectorBytes) then
        if (s.port p).hasFilling then (s.updPort p fun u => u.fill w).settle
        else if s.mayTake p then (s.updPort p fun u => u.beginSector w).settle
        else s.refuseData p
      else s.refuseData p
    | .read _ _ _ => s.refuseData p
    | .check _ _ _ => s.refuseData p
    | .blank _ _ _ => s.refuseData p
    | .wipe _ _ _ => s.refuseData p
    | .commit => s.refuseData p
    | .openKey _ _ _ => s.refuseData p
    | .setKey _ _ _ => s.refuseData p
    | .clearKey _ _ => s.refuseData p
    | .setRecovery _ _ => s.refuseData p

/-! ### DATA reads -/

/-- The status of a READ that completes (R113). -/
def State.readStatus (s : State) (i : Index) (r : ReadProgress) : Status :=
  match r.failAt with
  | some _ => .unreadable
  | none => if s.counts[i] = r.genStart then .ok else .okChanged

/-- A READ completes when reading is closed, no segment of it is in flight and its transfer list is empty (R113). -/
def State.completeRead (s : State) (p : Port) : State :=
  match (s.port p).activeEntry with
  | none => s
  | some (e, a) =>
    match e.cmd, a.progress with
    | .read i _ _, .read r =>
      if r.readingClosed && !s.ownSegment p && (s.port p).transfers.isEmpty then s.finish p (s.readStatus i r) else s
    | _, _ => s

/-- The word at a byte offset of a buffer (R175). -/
def Buffer.wordAt (b : Buffer) (offset : Nat) : Word := wordOf (b.data.getD (offset + 1) 0) (b.data.getD offset 0)

/-- The oldest buffer, whose word at the offset has been taken: in part, the buffer is DRAINING and the offset rises;
whole, it is freed, the sector counts as delivered and the stall timer restarts (R97, R112, R81). -/
def PortUnit.drain (u : PortUnit) (b : Buffer) (rest : List Buffer) (r : ReadProgress) : PortUnit :=
  if u.offset + 2 = Config.sectorBytes then
    { u with transfers := rest, offset := 0, moved := u.moved + 2, stallTimer := restartTimer u.stallTimer }.setProgress
      (.read { r with sectorsDone := r.sectorsDone + 1, blankMet := r.blankMet + flagCode b.blankMark })
  else
    { u with transfers := { b with state := .draining } :: rest, offset := u.offset + 2, moved := u.moved + 2 }

/-- The port's data output takes a word. -/
def State.output (s : State) (p : Port) (w : Word) : State := s.updPort p fun u => { u with dataOut := w }

/-- An empty DATA read: it returns 0 and sets DATA_REFUSED (R97, R98). -/
def State.emptyRead (s : State) (p : Port) : State := (s.refuseData p).output p 0

/-- The effect of a DATA read (R97, R98): the word goes to the port's data output. -/
def State.dataRead (s : State) (p : Port) : State :=
  match (s.port p).activeEntry with
  | none => s.emptyRead p
  | some (e, a) =>
    match e.cmd, a.progress with
    | .read _ _ _, .read r =>
      if a.abortPending then s.emptyRead p
      else match (s.port p).transfers with
        | [] => s.emptyRead p
        | b :: rest =>
          if b.state = .ready ∨ b.state = .draining then
            (((s.output p (b.wordAt (s.port p).offset)).updPort p fun u => u.drain b rest r).completeRead p).settle
          else s.emptyRead p
    | _, _ => s.emptyRead p

/-! ### EVENTS, EVENT_ENABLE and the parameter words -/

/-- A write of EVENTS clears each latched event whose bit is one; DONE and NOTICE are ignored (R164, R171). -/
def Latched.clearBits (l : Latched) (w : Word) : Latched :=
  { table := l.table && !w.getLsbD 2, claimLost := l.claimLost && !w.getLsbD 3,
    dataRefused := l.dataRefused && !w.getLsbD 4, ready := l.ready && !w.getLsbD 5 }

/-- The effect of a write of EVENTS (R164). -/
def State.eventsWrite (s : State) (p : Port) (w : Word) : State :=
  s.updPort p fun u => { u with latched := u.latched.clearBits w }

/-- The effect of a write of EVENT_ENABLE: the six enables take the values written (R165). -/
def State.enableWrite (s : State) (p : Port) (w : Word) : State := s.updPort p fun u => { u with enables := w.setWidth 6 }

/-- PARAM words store, at locations 1 to 12; a location with no behaviour ignores the write (R171). -/
def State.paramWrite (s : State) (p : Port) (loc : Nat) (w : Word) : State :=
  if h : 1 ≤ loc ∧ loc ≤ 12 then s.updPort p fun u => { u with params := u.params.set (loc - 1) w } else s

/-! ### The window's writes -/

/-- The effect of a write of ISSUE, by the command the word names (R171, R176, R177). -/
def State.issueWord (s : State) (p : Port) (w : Word) : State :=
  match decodeIssue p (s.port p).params[0] w with
  | .read _ tag => s.issueQueued p tag PortUnit.givenRead
  | .check _ tag => s.issueQueued p tag PortUnit.givenCheck
  | .write _ tag => s.issueQueued p tag PortUnit.givenWrite
  | .blank _ tag => s.issueQueued p tag PortUnit.givenBlank
  | .wipe _ tag => s.issueQueued p tag PortUnit.givenWipe
  | .commit _ tag => s.issueQueued p tag fun _ => some .commit
  | .openKey _ tag => s.issueQueued p tag PortUnit.givenOpen
  | .setKey _ tag => s.issueQueued p tag PortUnit.givenSetKey
  | .clearKey _ tag => s.issueQueued p tag PortUnit.givenClearKey
  | .setRecovery _ tag => s.issueQueued p tag PortUnit.givenSetRecovery
  | .claim _ => s.claim p
  | .discard _ => s.discard p
  | .define _ => s.define p
  | .delete _ => s.delete p
  | .resize _ => s.resize p
  | .modify _ => s.modify p
  | .close _ => s.close p
  | .hold _ => s.takeHold p
  | .stageKey _ => s.stageKey p
  | .abort _ => s.abort p
  | .pop _ => s.updPort p PortUnit.pop
  | .watch _ => s.watch p
  | .notices _ => s.updPort p PortUnit.notices
  | .infoPart _ => s.info p
  | .infoPartition _ => s.info p
  | .setup _ => s.setup p
  | .badCommand _ _ => s.issueBadCommand p
  | .dataWrite _ _ | .dataRead _ | .eventsWrite _ _ | .eventEnableWrite _ _ | .registerWrite _ _ _ | .commandStart _
  | .segmentGrant | .readSectorReadEnd | .checkSectorReadEnd | .writeProgramEnd _ | .blankBlockEnd | .wipeBlockEnd
  | .tableBlockBlankEnd | .tableHeaderProgramEnd _ | .tableRecordsProgramEnd _ | .loadReadEnd | .standbyTimerExpiry
  | .wakeEnd | .leaseExpiry | .stallExpiry _ | .portReset _ | .portResetRelease _ | .partReset _ | .partResetRelease
  | .powerOn _ | .powerLoss _ | .frameByte _ | .frameEnd => s

/-- The effect of a write of any location (R171). -/
def State.windowWrite (s : State) (p : Port) (loc : Nat) (w : Word) : State :=
  if loc = 0 then s.issueWord p w
  else if loc = 21 then s.dataWrite p w
  else if loc = 22 then s.eventsWrite p w
  else if loc = 23 then s.enableWrite p w
  else s.paramWrite p loc w

/-! ### Port C's frames (R174) -/

/-- The frame that a frame byte opens. -/
def frameOf (b : Byte) : Frame :=
  { void := b.getLsbD 5 || b.getLsbD 6, reading := b.getLsbD 7, loc := b.toNat % 32, half := none }

/-- A read of a location whose word goes to the data output; a read of DATA has its effect (R171). -/
def State.readToOutput (s : State) (p : Port) (loc : Nat) : State :=
  if loc = 21 then s.dataRead p else s.output p (s.windowRead p loc)

/-- A byte of a frame in progress. In a write frame a word is written when its second byte has ended; in a read frame
it is read when its first byte begins; a void frame ignores its bytes and the data output gives 0. What the data output
gives during the bytes of a write frame is not stated, and the model leaves the word last read there (log 36). -/
def State.byteInFrame (s : State) (f : Frame) (b : Byte) : State :=
  if f.void then s.output .c 0
  else if f.reading then
    match f.half with
    | none =>
      let s1 := s.readToOutput .c f.loc
      { s1 with frame := some { f with half := some (lowByte (s1.port .c).dataOut) } }
    | some _ => s.passWord .c
  else
    match f.half with
    | none => { s with frame := some { f with half := some b } }
    | some high => ({ s with frame := some { f with half := none } }.windowWrite .c f.loc (wordOf high b)).passWord .c

/-- A byte on port C's data input. While the port takes accesses, the first byte since chip select was asserted opens
the frame, and a later one is a byte of the frame in progress; when a reset has ended that frame, the bytes up to its
end open none (R174, log 12). What the data output gives during the frame byte is not stated, and the model leaves the
word last read there (log 36). -/
def State.frameByte (s : State) (b : Byte) : State :=
  if s.takesAccess .c then
    match s.frame with
    | some f => s.byteInFrame f b
    | none => if s.selected then s else { s with frame := some (frameOf b), selected := true }
  else { s with selected := true }

/-! ### Meanings -/

/-- BAD_COMMAND (R62): the issue of a word that names none of the part's commands. -/
def execBadCommand (p : Port) (word : Word) (s : State) : Host.Outcome State Fault Refusal :=
  .next (s.onWrite p 0 fun s => s.issueWord p word)

/-- DATA_WRITE (R96, R98). -/
def execDataWrite (p : Port) (word : Word) (s : State) : Host.Outcome State Fault Refusal :=
  .next (s.onWrite p 21 fun s => s.dataWrite p word)

/-- DATA_READ (R97, R98). A read the port does not take returns 0 (R173). -/
def execDataRead (p : Port) (s : State) : Host.Outcome State Fault Refusal :=
  .next (if s.accessMade p true 21 then (s.dataRead p).passWord p else s.output p 0)

/-- EVENTS_WRITE (R164). -/
def execEventsWrite (p : Port) (word : Word) (s : State) : Host.Outcome State Fault Refusal :=
  .next (s.onWrite p 22 fun s => s.eventsWrite p word)

/-- EVENT_ENABLE_WRITE (R165). -/
def execEventEnableWrite (p : Port) (word : Word) (s : State) : Host.Outcome State Fault Refusal :=
  .next (s.onWrite p 23 fun s => s.enableWrite p word)

/-- REGISTER_WRITE (R171): a write of a location, a PARAM word or one that ignores it. At a location with a behaviour
of its own it acts as R171 gives there. -/
def execRegisterWrite (p : Port) (loc : Fin 32) (word : Word) (s : State) : Host.Outcome State Fault Refusal :=
  .next (s.onWrite p loc.val fun s => s.windowWrite p loc.val word)

/-- FRAME_BYTE (R174). -/
def execFrameByte (byte : Byte) (s : State) : Host.Outcome State Fault Refusal := .next (s.frameByte byte)

/-- FRAME_END (R174): chip select is negated, the frame ends, and a half-received word is discarded without an access. -/
def execFrameEnd (s : State) : Host.Outcome State Fault Refusal := .next { s with frame := none, selected := false }

end Sys2Proof.Machine
end

