-- ==== Sys2Proof/Machine/Ends.lean ====
section
/-! DEFINITION. The ends of array operations: what each report does in the array and to the command that owns the
segment (R70, R73, R77), for READ (R110, R111), CHECK (R119), WRITE (R124 to R126), BLANK (R130), WIPE (R134), the
table segment (R26, R28, R30) and the start-up load (R35 to R37). -/

namespace Sys2Proof.Machine

/-- No operation is in flight. -/
def State.landed (s : State) : State := { s with inFlight := none }

/-- The buffer of a removed entry's segment is freed at the segment's end (R104). -/
def PortUnit.dropInArray (u : PortUnit) : PortUnit :=
  { u with transfers := u.transfers.filter fun b => decide (b.state ≠ .inArray) }

/-- The segment of a removed entry has ended at its port. -/
def State.endRemoved (s : State) (p : Port) : State := s.updPort p PortUnit.dropInArray

/-! ### READ -/

/-- The IN_ARRAY buffer becomes READY with the sector's bytes (R93, R110). -/
def Buffer.deliver (data : List Byte) (blank : Bool) (b : Buffer) : Buffer :=
  if b.state = .inArray then { b with state := .ready, data := data, blankMark := blank } else b

/-- A sector delivered into its buffer; reading closes with the last sector of the range (R110). -/
def PortUnit.readDelivered (u : PortUnit) (r : ReadProgress) (count : Nat) (data : List Byte) (blank : Bool) : PortUnit :=
  PortUnit.setProgress { u with transfers := u.transfers.map (Buffer.deliver data blank) }
    (.read { r with sectorsRead := r.sectorsRead + 1,
                    readingClosed := r.readingClosed || decide (r.sectorsRead + 1 = count) })

/-- What the report of a READ's sector read does at the port (R110, R111). -/
def PortUnit.readReport (u : PortUnit) (r : ReadProgress) (count : Nat) : ReadReport → PortUnit
  | .data c => u.readDelivered r count c.toBytes false
  | .blank => u.readDelivered r count (List.replicate Config.sectorBytes 0xFF) true
  | .unreadable =>
    u.dropInArray.setProgress (.read { r with failAt := some (r.nextSector - 1), readingClosed := true })

/-- The end of a READ's segment: ABORTED when an ABORT was taken meanwhile (R77), else the READ completes when nothing
is left to drain (R113). -/
def State.readEnd (s : State) (g : Segment) (count : Nat) (report : ReadReport) : State :=
  if g.removed then s.landed.endRemoved g.port
  else match (s.port g.port).activeEntry with
    | none => s.landed
    | some (_, a) =>
      match a.progress with
      | .read r =>
        let s1 := s.landed.updPort g.port fun u => u.readReport r count report
        if a.abortPending then s1.finish g.port .aborted else s1.completeRead g.port
      | _ => s.landed

/-- READ_SECTOR_READ_END (R110, R111). -/
def execReadSectorReadEnd (s : State) : Host.Outcome State Fault Refusal :=
  match s.inFlight with
  | some (.segment g) =>
    match g.cmd, g.work with
    | .read _ _ count, .readSector n => .next (s.readEnd g count (readSector s.array n)).settle
    | _, _ => .next s
  | _ => .next s

/-! ### CHECK -/

/-- A CHECK counts a report (R119). -/
def CheckProgress.counted (c : CheckProgress) : ReadReport → CheckProgress
  | .data _ => { c with sectorsDone := c.sectorsDone + 1 }
  | .blank => { c with sectorsDone := c.sectorsDone + 1, blankMet := c.blankMet + 1 }
  | .unreadable =>
    { c with sectorsDone := c.sectorsDone + 1, damagedMet := c.damagedMet + 1,
             firstDamaged := some (c.firstDamaged.getD (c.nextSector - 1)) }

/-- The end of a CHECK's segment (R119, R120). -/
def State.checkEnd (s : State) (g : Segment) (count : Nat) (report : ReadReport) : State :=
  if g.removed then s.landed
  else match (s.port g.port).activeEntry with
    | none => s.landed
    | some (_, a) =>
      match a.progress with
      | .check c =>
        let c1 := c.counted report
        let s1 := s.landed.updPort g.port fun u => u.setProgress (.check c1)
        if a.abortPending then s1.finish g.port .aborted
        else if c1.sectorsDone = count then s1.finish g.port .ok
        else s1
      | _ => s.landed

/-- CHECK_SECTOR_READ_END (R119). -/
def execCheckSectorReadEnd (s : State) : Host.Outcome State Fault Refusal :=
  match s.inFlight with
  | some (.segment g) =>
    match g.cmd, g.work with
    | .check _ _ count, .readSector n => .next (s.checkEnd g count (readSector s.array n)).settle
    | _, _ => .next s
  | _ => .next s

/-! ### WRITE -/

/-- What a program's end leaves in the array and in the change count (R5, R132). -/
def State.programmed (s : State) (i : Index) (p : Port) (n : Nat) (data : List Byte) (ok : Bool) : State :=
  let s1 := { s.landed with array := programSector s.array n (.bytes data) ok }
  if programReport s.array n ok = .notBlank then s1 else s1.riseCount i p

/-- The oldest buffer's program ended "written": it is freed and the sector counts (R92, R124). -/
def PortUnit.programmedOne (u : PortUnit) (w : WriteProgress) : PortUnit :=
  PortUnit.setProgress { u with transfers := u.transfers.tail }
    (.write { w with sectorsDone := w.sectorsDone + 1, nextSector := w.nextSector + 1 })

/-- The WRITE stops at the sector it was programming (R125, R126). -/
def PortUnit.stoppedAt (u : PortUnit) (w : WriteProgress) : PortUnit :=
  u.setProgress (.write { w with failAt := some w.nextSector })

/-- The status of an ended command, ABORTED when an ABORT was taken during its segment (R77). -/
def orAborted (abortPending : Bool) (st : Status) : Status := if abortPending then .aborted else st

/-- What the report of a WRITE's program does to the WRITE (R124 to R127). -/
def State.writeReport (s : State) (p : Port) (count : Nat) (w : WriteProgress) (abortPending : Bool) :
    ProgramReport → State
  | .written =>
    let s1 := s.updPort p fun u => u.programmedOne w
    if abortPending then s1.finish p .aborted
    else if w.sectorsDone + 1 = count then s1.finish p .ok
    else s1
  | .notBlank => (s.updPort p fun u => u.stoppedAt w).finish p (orAborted abortPending .notBlank)
  | .programFailure => (s.updPort p fun u => u.stoppedAt w).finish p (orAborted abortPending .programFault)

/-- The end of a WRITE's segment. -/
def State.writeEnd (s : State) (g : Segment) (i : Index) (count n : Nat) (data : List Byte) (ok : Bool) : State :=
  let s1 := s.programmed i g.port n data ok
  if g.removed then s1.endRemoved g.port
  else match (s1.port g.port).activeEntry with
    | none => s1
    | some (_, a) =>
      match a.progress with
      | .write w => s1.writeReport g.port count w a.abortPending (programReport s.array n ok)
      | _ => s1

/-- WRITE_PROGRAM_END (R124 to R126); `ok` says whether a program of a BLANK sector succeeds (R5). -/
def execWriteProgramEnd (ok : Bool) (s : State) : Host.Outcome State Fault Refusal :=
  match s.inFlight with
  | some (.segment g) =>
    match g.cmd, g.work with
    | .write i _ count, .programSector n data => .next (s.writeEnd g i count n data ok).settle
    | _, _ => .next s
  | _ => .next s

/-! ### BLANK and WIPE -/

/-- What a block blank's end leaves in the array and in the change count (R6, R132). -/
def State.blanked (s : State) (i : Index) (p : Port) (b : Nat) : State :=
  { s.landed with array := blankBlock s.array b }.riseCount i p

/-- The end of a BLANK's segment (R130, R131). -/
def State.blankEnd (s : State) (g : Segment) (i : Index) (count b : Nat) : State :=
  let s1 := s.blanked i g.port b
  if g.removed then s1
  else match (s1.port g.port).activeEntry with
    | none => s1
    | some (_, a) =>
      match a.progress with
      | .blank k =>
        let s2 := s1.updPort g.port fun u => u.setProgress (.blank { k with blocksDone := k.blocksDone + 1 })
        if a.abortPending then s2.finish g.port .aborted
        else if k.blocksDone + 1 = count then s2.finish g.port .ok
        else s2
      | _ => s1

/-- BLANK_BLOCK_END (R130). -/
def execBlankBlockEnd (s : State) : Host.Outcome State Fault Refusal :=
  match s.inFlight with
  | some (.segment g) =>
    match g.cmd, g.work with
    | .blank i _ count, .blankBlock b => .next (s.blankEnd g i count b).settle
    | _, _ => .next s
  | _ => .next s

/-- The number of blocks of a live partition, 0 when it is undefined. -/
def State.blockCount (s : State) (i : Index) : Nat :=
  match s.record i with
  | none => 0
  | some x => x.blockCount

/-- The end of a WIPE's block segment: after the last block the table segment is due (R134). A WIPE ended here leaves
the table state (R58, R136). -/
def State.wipeBlockEnd (s : State) (g : Segment) (i : Index) (b : Nat) : State :=
  let s1 := s.blanked i g.port b
  if g.removed then { s1 with tableState := .free }
  else match (s1.port g.port).activeEntry with
    | none => s1
    | some (_, a) =>
      match a.progress with
      | .wipe k =>
        let s2 := s1.updPort g.port fun u =>
          u.setProgress
            (.wipe { k with blocksDone := k.blocksDone + 1, tableDue := decide (k.blocksDone + 1 = s.blockCount i) })
        if a.abortPending then (s2.finish g.port .aborted).leaveTableState g.cmd else s2
      | _ => s1

/-- WIPE_BLOCK_END (R134). -/
def execWipeBlockEnd (s : State) : Host.Outcome State Fault Refusal :=
  match s.inFlight with
  | some (.segment g) =>
    match g.cmd, g.work with
    | .wipe i _ _, .blankBlock b => .next (s.wipeBlockEnd g i b).settle
    | _, _ => .next s
  | _ => .next s

/-! ### The table segment (R26) -/

/-- The slot that a table segment writes (R24). -/
def State.tableSlot (s : State) : Fin 2 := otherSlot s.currentSlot

/-- The segment goes on with its next operation. -/
def State.goOn (s : State) (g : Segment) (w : Work) (array : Memory) : State :=
  { s with array := array, inFlight := some (.segment { g with work := w }) }

/-- TABLE_BLOCK_BLANK_END (R26): the slot's block is BLANK, and the program of the header sector begins. -/
def execTableBlockBlankEnd (s : State) : Host.Outcome State Fault Refusal :=
  match s.inFlight with
  | some (.segment g) =>
    match g.work with
    | .tableBlank new => .next (s.goOn g (.tableHeader new) (blankBlock s.array s.tableSlot.val))
    | _ => .next s
  | _ => .next s

/-- The end of the header sector's program: "written" begins the program of the records sector, anything else is a
table fault (R26, R28). -/
def State.headerEnd (s : State) (g : Segment) (new : Table) (ok : Bool) : State :=
  let n := slotSector s.tableSlot 0
  let array := programSector s.array n (.header new.headerSector) ok
  if programReport s.array n ok = .written then s.goOn g (.tableRecords new) array
  else ({ s.landed with array := array }.tableFault g.port g.cmd g.removed).settle

/-- TABLE_HEADER_PROGRAM_END (R26, R28). -/
def execTableHeaderProgramEnd (ok : Bool) (s : State) : Host.Outcome State Fault Refusal :=
  match s.inFlight with
  | some (.segment g) =>
    match g.work with
    | .tableHeader new => .next (s.headerEnd g new ok)
    | _ => .next s
  | _ => .next s

/-- The end of the records sector's program: "written" is the switchover, anything else a table fault (R26, R28,
R30). -/
def State.recordsEnd (s : State) (g : Segment) (new : Table) (ok : Bool) : State :=
  let n := slotSector s.tableSlot 1
  let s1 := { s.landed with array := programSector s.array n (.records new.recordsSector) ok }
  if programReport s.array n ok = .written then (s1.switchover g new).settle
  else (s1.tableFault g.port g.cmd g.removed).settle

/-- TABLE_RECORDS_PROGRAM_END (R26, R28, R30). -/
def execTableRecordsProgramEnd (ok : Bool) (s : State) : Host.Outcome State Fault Refusal :=
  match s.inFlight with
  | some (.segment g) =>
    match g.work with
    | .tableRecords new => .next (s.recordsEnd g new ok)
    | _ => .next s
  | _ => .next s

/-! ### The start-up load -/

/-- The load has ended: the live table stands, the part is READY and every port raises READY (R36, R37). -/
def State.loaded (s : State) (t0 t1 : Option Table) : State :=
  { s.landed with
    live := (loadChoice t0 t1).1, currentSlot := (loadChoice t0 t1).2, part := .ready,
    ports := s.ports.mapPorts fun _ u => { u with latched := { u.latched with ready := true } } }

/-- The end of one of the load's four sector reads, with the reports so far (R35, R36). -/
def State.loadEnd (s : State) (got : List ReadReport) : State :=
  if got.length < 4 then { s with inFlight := some (.load got) }
  else (s.loaded (slotTable (got.getD 0 .blank) (got.getD 1 .blank))
    (slotTable (got.getD 2 .blank) (got.getD 3 .blank))).settle

/-- LOAD_READ_END (R35 to R37). -/
def execLoadReadEnd (s : State) : Host.Outcome State Fault Refusal :=
  match s.inFlight with
  | some (.load got) => .next (s.loadEnd (got ++ [readSector s.array (loadSector got.length)]))
  | _ => .next s

end Sys2Proof.Machine
end

