-- ==== Sys2Proof/Machine/Resets.lean ====
section
/-! DEFINITION. The port reset (R182, with R56 to R58, R83, R104, R105, R158) and the part reset, the supply and what
they clear (R183, R8, R16, R35, R59, R84, R106). -/

namespace Sys2Proof.Machine

/-! ### The port reset -/

/-- COMMIT, a key job or WIPE: the commands that hold a table state (R41, R52). -/
def QueuedCommand.holdsTable : QueuedCommand → Bool
  | .commit => true
  | .wipe _ _ _ => true
  | .setKey _ _ _ => true
  | .clearKey _ _ => true
  | .setRecovery _ _ => true
  | .read _ _ _ => false
  | .check _ _ _ => false
  | .write _ _ _ => false
  | .blank _ _ _ => false
  | .openKey _ _ _ => false

/-- A segment of the port's COMMIT or table job is in flight, removed by an earlier reset or not (R57, R58). -/
def State.jobInFlight (s : State) (p : Port) : Bool :=
  match s.inFlight with
  | some (.segment g) => decide (g.port = p) && g.cmd.holdsTable
  | some (.load _) => false
  | none => false

/-- The table state after a port reset (R56 to R58). -/
def State.tableStateAfterReset (s : State) (p : Port) : TableState :=
  match s.tableState with
  | .free => .free
  | .claimed h staged lease t => if h = p then .free else .claimed h staged lease t
  | .committing h staged lease => if h = p ∧ s.jobInFlight p = false then .free else .committing h staged lease
  | .updating j => if j = p ∧ s.jobInFlight p = false then .free else .updating j

/-- The segment in flight, when it is the reset port's, is kept with its entry removed (R73, R83). -/
def InFlight.removeOwner (p : Port) : InFlight → InFlight
  | .segment g => .segment (if g.port = p then { g with removed := true } else g)
  | .load got => .load got

/-- Some segment in flight is the port's, of its ACTIVE entry or of one removed by an earlier reset (R104). -/
def State.segmentOf (s : State) (p : Port) : Bool := s.ownSegment p || s.removedSegment p

/-- A port unit after a port reset, with the buffers that stay (R182, R104); its guarantee is set by R105. -/
def PortUnit.afterReset (kept : List Buffer) : PortUnit := { PortUnit.reset with prst := true, transfers := kept }

/-- The guarantee after a port reset: 2 when the pool law allows it, else the largest the law allows (R105). It is
judged when the buffers of R104 have been freed. -/
def State.resetGuarantee (s : State) (p : Port) : Nat :=
  if s.poolAdmits p 2 then 2 else s.freeCount - s.othersUnmet p + (s.port p).holding

/-- The port's own state and the table state after its reset, before its guarantee is set. -/
def State.clearPort (s : State) (p : Port) : State :=
  { s with
    tableState := s.tableStateAfterReset p,
    inFlight := s.inFlight.map (InFlight.removeOwner p),
    openSets := Vector.ofFn fun i : Fin 8 => (s.openSets[i]).set p false,
    ports := s.ports.set p (PortUnit.afterReset ((s.port p).keptBuffers (s.segmentOf p))),
    frame := if p = .c then none else s.frame }

/-- The effects of a port reset, made at the assertion of PRST (R182). -/
def State.resetPort (s : State) (p : Port) : State :=
  let s1 := s.clearPort p
  (s1.updPort p fun u => { u with guarantee := s1.resetGuarantee p }).settle

/-- The level of a port's PRST line. -/
def State.withPrst (s : State) (p : Port) (level : Bool) : State := s.updPort p fun u => { u with prst := level }

/-- PORT_RESET (R182): PRST is asserted. While RESET is asserted, or without power, only the line moves. -/
def execPortReset (p : Port) (s : State) : Host.Outcome State Fault Refusal :=
  .next (if s.powered && !s.resetLine then s.resetPort p else s.withPrst p true)

/-- PORT_RESET_RELEASE (R182): PRST is negated. -/
def execPortResetRelease (p : Port) (s : State) : Host.Outcome State Fault Refusal := .next (s.withPrst p false)

/-! ### The part reset and the supply -/

/-- The first read of the start-up load is in flight, unless RESET holds it back (R35, R183). -/
def startLoad (resetLine : Bool) : Option InFlight := if resetLine then none else some (.load [])

/-- Everything volatile at its reset value, the operation in flight cut (R8), the lines and the waiting commands as
they were. -/
def State.wiped (s : State) (begun : Bool) : State :=
  { State.cleared with
    pending := s.pending, powered := s.powered, resetLine := s.resetLine, selected := s.selected,
    array := s.cutArray begun,
    ports := PerPort.mapPorts s.ports fun _ u => { PortUnit.reset with prst := u.prst } }

/-- PART_RESET (R183): RESET is asserted. Without power only the line moves. -/
def execPartReset (begun : Bool) (s : State) : Host.Outcome State Fault Refusal :=
  .next (if s.powered then { s.wiped begun with resetLine := true } else { s with resetLine := true })

/-- The release of RESET: the load begins (R35, R183). -/
def State.releaseReset (s : State) : State :=
  { s with resetLine := false, inFlight := if s.powered then startLoad false else s.inFlight }

/-- PART_RESET_RELEASE (R183): RESET is negated. -/
def execPartResetRelease (s : State) : Host.Outcome State Fault Refusal :=
  .next (if s.resetLine then s.releaseReset else s)

/-- POWER_ON (R183): power-on acts as a part reset. -/
def execPowerOn (begun : Bool) (s : State) : Host.Outcome State Fault Refusal :=
  .next { s.wiped begun with powered := true, inFlight := startLoad s.resetLine }

/-- POWER_LOSS (R8): the operation in flight is cut and every volatile piece of state is gone; it is held at the value
the next power-on gives it (log 15). -/
def execPowerLoss (begun : Bool) (s : State) : Host.Outcome State Fault Refusal :=
  .next (if s.powered then { s.wiped begun with powered := false } else s)

end Sys2Proof.Machine
end

