-- ==== Sys2Proof/Machine/Start.lean ====
section
/-! DEFINITION. The start of the oldest QUEUED entry (R64 to R66): the start checks of each command (R65, R52, R133,
R146, R149, R151, R154), the key comparison (R143), and what a start does. -/

namespace Sys2Proof.Machine

/-- The outcome of a start (R66): the command ends at its start with a status, or becomes ACTIVE with its progress. -/
inductive StartOutcome where
  | ends (st : Status)
  | runs (pr : Progress)
deriving DecidableEq, Repr

/-- The first of two checks that fails decides. -/
def firstFailing (c d : Option Status) : Option Status :=
  match c with
  | some st => some st
  | none => d

/-- A check that fails with a status when its condition does not hold. -/
def require (cond : Bool) (st : Status) : Option Status := if cond then none else some st

/-- The port is the partition's writer; a writer of NONE admits no port (R65). -/
def Partition.writtenBy (x : Partition) (p : Port) : Bool := decide (x.writer = some p)

/-- The partition is unkeyed, or the port is in its open set (R65). -/
def State.unlocked (s : State) (p : Port) (i : Index) (x : Partition) : Bool :=
  x.lock.isNone || (s.openSets[i]).get p

/-- The start checks of a data command on a defined partition (R65): access, LOCKED, range. -/
def State.dataChecks (s : State) (p : Port) (i : Index) (x : Partition) (access fits : Bool) : Option Status :=
  firstFailing (require access .noAccess)
    (firstFailing (require (s.unlocked p i x) .locked) (require fits .outOfRange))

/-- The table-state test of a key job and of WIPE (R41). -/
def State.jobTest (s : State) : Option Status :=
  match s.tableState with
  | .free => none
  | .claimed _ _ _ _ => some .claimed
  | .committing _ _ _ => some .tableBusy
  | .updating _ => some .tableBusy

/-- A key comparison (R143): with budget 0 none is made; a failure ends the command. -/
def State.compareKey (s : State) (p : Port) (matched : Bool) : Option Status :=
  firstFailing (require (decide ((s.port p).budget ≠ 0)) .budgetSpent) (require matched .keyMismatch)

/-- The outcome by the first check that fails; else the command becomes ACTIVE. -/
def orRuns (c : Option Status) (pr : Progress) : StartOutcome :=
  match c with
  | some st => .ends st
  | none => .runs pr

/-- Start of READ (R65, R107). -/
def State.startRead (s : State) (p : Port) (i : Index) (start count : Nat) : StartOutcome :=
  match s.record i with
  | none => .ends .notDefined
  | some x =>
    orRuns (s.dataChecks p i x (x.permits p) (decide (start + count ≤ x.blockCount * Config.blockSectors)))
      (.read { nextSector := start, sectorsRead := 0, readingClosed := false, failAt := none, sectorsDone := 0,
               blankMet := 0, genStart := s.counts[i] })

/-- Start of CHECK (R65, R118). -/
def State.startCheck (s : State) (p : Port) (i : Index) (start count : Nat) : StartOutcome :=
  match s.record i with
  | none => .ends .notDefined
  | some x =>
    orRuns (s.dataChecks p i x (x.permits p) (decide (start + count ≤ x.blockCount * Config.blockSectors)))
      (.check { nextSector := start, sectorsDone := 0, blankMet := 0, damagedMet := 0, firstDamaged := none })

/-- Start of WRITE (R65, R122). -/
def State.startWrite (s : State) (p : Port) (i : Index) (start count : Nat) : StartOutcome :=
  match s.record i with
  | none => .ends .notDefined
  | some x =>
    orRuns (s.dataChecks p i x (x.writtenBy p) (decide (start + count ≤ x.blockCount * Config.blockSectors)))
      (.write { nextSector := start, sectorsDone := 0, failAt := none })

/-- Start of BLANK (R65, R129). -/
def State.startBlank (s : State) (p : Port) (i : Index) (first count : Nat) : StartOutcome :=
  match s.record i with
  | none => .ends .notDefined
  | some x =>
    orRuns (s.dataChecks p i x (x.writtenBy p) (decide (first + count ≤ x.blockCount)))
      (.blank { nextBlock := first, blocksDone := 0 })

/-- The key a WIPE or an OPEN is compared with matches (R133, R146); an absent recovery key never does (R143). -/
def State.whichMatches (s : State) (l : KeyLock) (which : Which) (key : Key) : Bool :=
  match which with
  | .partition => decide (key = l.key)
  | .recovery => decide (s.live.recovery = some key)

/-- Start of WIPE (R133). -/
def State.startWipe (s : State) (p : Port) (i : Index) (which : Which) (key : Key) : StartOutcome :=
  match s.record i with
  | none => .ends .notDefined
  | some x =>
    orRuns
      (firstFailing (require (x.writtenBy p) .noAccess)
        (firstFailing (require (!s.held) .holdActive)
          (firstFailing s.jobTest
            (match x.lock with
             | none => none
             | some l => s.compareKey p (s.whichMatches l which key)))))
      (.wipe { nextBlock := 0, blocksDone := 0, tableDue := false })

/-- Start of COMMIT (R52). -/
def State.startCommit (s : State) (p : Port) : StartOutcome :=
  match s.tableState with
  | .claimed h _ _ _ => if h = p then .runs (.job true) else .ends .notHolder
  | .free => .ends .notHolder
  | .committing _ _ _ => .ends .notHolder
  | .updating _ => .ends .notHolder

/-- Start of OPEN, which has no segment and completes at its start (R66, R146). -/
def State.startOpen (s : State) (p : Port) (i : Index) (which : Which) (key : Key) : StartOutcome :=
  match s.record i with
  | none => .ends .notDefined
  | some x =>
    if x.permits p then
      match x.lock with
      | none => .ends .ok
      | some l =>
        if which = .recovery ∧ l.mode = .strict then .ends .modeRefused
        else match s.compareKey p (s.whichMatches l which key) with
          | some st => .ends st
          | none => .ends .ok
    else .ends .noAccess

/-- Start of SET KEY (R149). -/
def State.startSetKey (s : State) (p : Port) (i : Index) : StartOutcome :=
  match s.record i with
  | none => .ends .notDefined
  | some x =>
    orRuns
      (firstFailing (require (x.writtenBy p) .noAccess)
        (firstFailing (require (s.unlocked p i x) .locked)
          (firstFailing (require (!s.held) .holdActive) s.jobTest)))
      (.job true)

/-- The value of a CLEAR KEY matches the partition's key or, in STANDARD mode, the recovery key (R151). -/
def State.clearMatches (s : State) (l : KeyLock) (key : Key) : Bool :=
  decide (key = l.key) || (decide (l.mode = .standard) && decide (s.live.recovery = some key))

/-- Start of CLEAR KEY (R151). -/
def State.startClearKey (s : State) (p : Port) (i : Index) (key : Key) : StartOutcome :=
  match s.record i with
  | none => .ends .notDefined
  | some x =>
    orRuns
      (firstFailing (require (x.writtenBy p) .noAccess)
        (firstFailing (require (!s.held) .holdActive)
          (firstFailing s.jobTest
            (match x.lock with
             | none => some .notKeyed
             | some l => s.compareKey p (s.clearMatches l key)))))
      (.job true)

/-- Start of SET RECOVERY (R154). -/
def State.startSetRecovery (s : State) (p : Port) (old : Option Key) : StartOutcome :=
  orRuns
    (firstFailing (require (!s.held) .holdActive)
      (firstFailing s.jobTest
        (match s.live.recovery with
         | none => none
         | some k => s.compareKey p (decide (old = some k)))))
    (.job true)

/-- The outcome of the start of a command, against the live table and the access unit as they stand (R65, R66). -/
def State.startOutcome (s : State) (p : Port) : QueuedCommand → StartOutcome
  | .read i start count => s.startRead p i start count
  | .check i start count => s.startCheck p i start count
  | .write i start count => s.startWrite p i start count
  | .blank i first count => s.startBlank p i first count
  | .wipe i which key => s.startWipe p i which key
  | .commit => s.startCommit p
  | .openKey i which key => s.startOpen p i which key
  | .setKey i _ _ => s.startSetKey p i
  | .clearKey i key => s.startClearKey p i key
  | .setRecovery _ old => s.startSetRecovery p old

/-- The oldest entry of a port may start (R64): the part is READY, no entry is ACTIVE, a completion slot is free. -/
def State.mayStart (s : State) (p : Port) : Bool :=
  decide (s.part = .ready) && !(s.port p).queue.isEmpty && (s.port p).queue.all (fun e => e.active.isNone) &&
    decide ((s.port p).completions.length + (s.port p).reserved < Config.completionSize)

/-- The start reserves one slot of the completion queue (R64). -/
def PortUnit.reserve (u : PortUnit) : PortUnit := { u with reserved := u.reserved + 1 }

/-- A failed comparison lowers the budget by one (R143). -/
def PortUnit.spend (u : PortUnit) (st : Status) : PortUnit :=
  if st = .keyMismatch then { u with budget := u.budget - 1 } else u

/-- An OPEN that ends OK on a keyed partition adds the port to the open set (R147). -/
def State.openIfMatched (s : State) (p : Port) (cmd : QueuedCommand) (st : Status) : State :=
  match cmd with
  | .openKey i _ _ =>
    match s.record i with
    | none => s
    | some x =>
      if st = .ok ∧ x.lock.isSome = true then
        { s with openSets := s.openSets.set i ((s.openSets[i]).set p true) }
      else s
  | .read _ _ _ | .check _ _ _ | .write _ _ _ | .blank _ _ _ | .wipe _ _ _ | .commit | .setKey _ _ _ | .clearKey _ _
  | .setRecovery _ _ => s

/-- What becoming ACTIVE does to the table state (R41, R52). -/
def State.enterTableState (s : State) (p : Port) (cmd : QueuedCommand) : State :=
  match cmd with
  | .commit =>
    match s.tableState with
    | .claimed h staged lease _ => { s with tableState := .committing h staged lease }
    | .free => s
    | .committing _ _ _ => s
    | .updating _ => s
  | .wipe _ _ _ => { s with tableState := .updating p }
  | .setKey _ _ _ => { s with tableState := .updating p }
  | .clearKey _ _ => { s with tableState := .updating p }
  | .setRecovery _ _ => { s with tableState := .updating p }
  | .read _ _ _ => s
  | .check _ _ _ => s
  | .write _ _ _ => s
  | .blank _ _ _ => s
  | .openKey _ _ _ => s

/-- A command that ends at its start: the record goes into the slot just reserved, and the entry leaves the queue
(R66). -/
def State.endAtStart (s : State) (p : Port) (e : Entry) (st : Status) : State :=
  (s.updPort p fun u =>
    { ((u.reserve.post (s.startRecord e st)).spend st) with queue := u.queue.tail }).openIfMatched p e.cmd st

/-- A command that becomes ACTIVE, with nothing done and no byte moved (R66, R95). -/
def State.becomeActive (s : State) (p : Port) (e : Entry) (pr : Progress) : State :=
  (s.updPort p fun u =>
    { u.reserve with
      queue := { e with active := some { progress := pr, abortPending := false } } :: u.queue.tail,
      moved := 0 }).enterTableState p e.cmd

/-- The start of the oldest entry (R64 to R66); nothing happens while it may not start. -/
def State.commandStart (s : State) (p : Port) : State :=
  if s.mayStart p then
    match (s.port p).queue with
    | [] => s
    | e :: _ =>
      match s.startOutcome p e.cmd with
      | .ends st => (s.endAtStart p e st).settle
      | .runs pr => (s.becomeActive p e pr).settle
  else s

/-- COMMAND_START (R64). -/
def execCommandStart (p : Port) (s : State) : Host.Outcome State Fault Refusal := .next (s.commandStart p)

end Sys2Proof.Machine
end

