-- ==== Sys2Proof/Machine/Timers.lean ====
section
/-! DEFINITION. The expiries of the standby timer (R12), the lease timer (R44) and the stall timers (R82), the end of a
wake (R15), and what happens while no command waits. An expiry is due when its timer has counted its length; one that is
not due does nothing (log 3). -/

namespace Sys2Proof.Machine

/-! ### Which expiries are due -/

/-- The standby timer has run for E (R12). -/
def State.standbyDue (s : State) : Bool :=
  match s.standbyTimer with
  | none => false
  | some n => decide (s.interval * Config.ticksPerStep ≤ n)

/-- The lease timer has counted the lease length (R43). -/
def State.leaseDue (s : State) : Bool :=
  match s.tableState with
  | .claimed _ _ lease t => decide (lease * Config.ticksPerStep ≤ t)
  | .free => false
  | .committing _ _ _ => false
  | .updating _ => false

/-- A port's stall timer has counted the stall setting (R82). A timer runs only while the port's ACTIVE command waits on
the port's data side (R80). -/
def State.stallDue (s : State) (p : Port) : Bool :=
  match (s.port p).stallTimer with
  | none => false
  | some n => decide ((s.port p).stallSetting ≤ n) && s.waitsOnData p

/-! ### What an expiry does -/

/-- The standby timer expires: the array enters STANDBY and the timer stops; a grant that is wanted wakes the array at
once (R12, R15). -/
def State.standbyExpiry (s : State) : State :=
  if s.standbyDue then { s with power := .standby, standbyTimer := none }.settle else s

/-- STANDBY_TIMER_EXPIRY (R12). -/
def execStandbyTimerExpiry (s : State) : Host.Outcome State Fault Refusal := .next s.standbyExpiry

/-- The wake time has passed: the array is READY (R15). -/
def State.wakeEnd (s : State) : State := if s.power = .waking then { s with power := .ready }.settle else s

/-- WAKE_END (R15). -/
def execWakeEnd (s : State) : Host.Outcome State Fault Refusal := .next s.wakeEnd

/-- The claim is lost: the claim and the staged table are gone, and the port that was the holder raises CLAIM_LOST
(R44). -/
def State.loseClaim (s : State) : State :=
  match s.tableState with
  | .claimed h _ _ _ =>
    { s with tableState := .free }.updPort h fun u => { u with latched := { u.latched with claimLost := true } }
  | .free => s
  | .committing _ _ _ => s
  | .updating _ => s

/-- The lease timer expires (R43, R44). -/
def State.leaseExpiry (s : State) : State := if s.leaseDue then s.loseClaim else s

/-- LEASE_EXPIRY (R44). -/
def execLeaseExpiry (s : State) : Host.Outcome State Fault Refusal := .next s.leaseExpiry

/-- A port's stall timer expires: its ACTIVE command ends STALLED (R82). -/
def State.stallExpiry (s : State) (p : Port) : State := if s.stallDue p then (s.finish p .stalled).settle else s

/-- STALL_EXPIRY (R82). -/
def execStallExpiry (p : Port) (s : State) : Host.Outcome State Fault Refusal := .next (s.stallExpiry p)

/-! ### Time -/

/-- No command waits (log 5): an expiry that is due takes place, one in a step, in the order standby timer, lease timer,
stall timers of A, B and C; when none is due, 10 ms pass. -/
def State.idle (s : State) : State :=
  if s.standbyDue then s.standbyExpiry
  else if s.leaseDue then s.leaseExpiry
  else if s.stallDue .a then s.stallExpiry .a
  else if s.stallDue .b then s.stallExpiry .b
  else if s.stallDue .c then s.stallExpiry .c
  else s.tick

end Sys2Proof.Machine
end

