-- ==== Sys2Proof/Machine/Dispatch.lean ====
section
/-! DEFINITION. The meaning of each command: one arm per constructor of Instr. -/

namespace Sys2Proof.Machine

def exec (i : Instr) (s : State) : Host.Outcome State Fault Refusal :=
  match i with
  | .read p tag => Sys2Proof.Machine.execRead p tag s
  | .check p tag => Sys2Proof.Machine.execCheck p tag s
  | .write p tag => Sys2Proof.Machine.execWrite p tag s
  | .blank p tag => Sys2Proof.Machine.execBlank p tag s
  | .wipe p tag => Sys2Proof.Machine.execWipe p tag s
  | .commit p tag => Sys2Proof.Machine.execCommit p tag s
  | .openKey p tag => Sys2Proof.Machine.execOpenKey p tag s
  | .setKey p tag => Sys2Proof.Machine.execSetKey p tag s
  | .clearKey p tag => Sys2Proof.Machine.execClearKey p tag s
  | .setRecovery p tag => Sys2Proof.Machine.execSetRecovery p tag s
  | .badCommand p word => Sys2Proof.Machine.execBadCommand p word s
  | .claim p => Sys2Proof.Machine.execClaim p s
  | .discard p => Sys2Proof.Machine.execDiscard p s
  | .define p => Sys2Proof.Machine.execDefine p s
  | .delete p => Sys2Proof.Machine.execDelete p s
  | .resize p => Sys2Proof.Machine.execResize p s
  | .modify p => Sys2Proof.Machine.execModify p s
  | .close p => Sys2Proof.Machine.execClose p s
  | .hold p => Sys2Proof.Machine.execHold p s
  | .stageKey p => Sys2Proof.Machine.execStageKey p s
  | .abort p => Sys2Proof.Machine.execAbort p s
  | .pop p => Sys2Proof.Machine.execPop p s
  | .watch p => Sys2Proof.Machine.execWatch p s
  | .notices p => Sys2Proof.Machine.execNotices p s
  | .infoPart p => Sys2Proof.Machine.execInfoPart p s
  | .infoPartition p => Sys2Proof.Machine.execInfoPartition p s
  | .setup p => Sys2Proof.Machine.execSetup p s
  | .dataWrite p word => Sys2Proof.Machine.execDataWrite p word s
  | .dataRead p => Sys2Proof.Machine.execDataRead p s
  | .eventsWrite p word => Sys2Proof.Machine.execEventsWrite p word s
  | .eventEnableWrite p word => Sys2Proof.Machine.execEventEnableWrite p word s
  | .registerWrite p loc word => Sys2Proof.Machine.execRegisterWrite p loc word s
  | .commandStart p => Sys2Proof.Machine.execCommandStart p s
  | .segmentGrant => Sys2Proof.Machine.execSegmentGrant s
  | .readSectorReadEnd => Sys2Proof.Machine.execReadSectorReadEnd s
  | .checkSectorReadEnd => Sys2Proof.Machine.execCheckSectorReadEnd s
  | .writeProgramEnd ok => Sys2Proof.Machine.execWriteProgramEnd ok s
  | .blankBlockEnd => Sys2Proof.Machine.execBlankBlockEnd s
  | .wipeBlockEnd => Sys2Proof.Machine.execWipeBlockEnd s
  | .tableBlockBlankEnd => Sys2Proof.Machine.execTableBlockBlankEnd s
  | .tableHeaderProgramEnd ok => Sys2Proof.Machine.execTableHeaderProgramEnd ok s
  | .tableRecordsProgramEnd ok => Sys2Proof.Machine.execTableRecordsProgramEnd ok s
  | .loadReadEnd => Sys2Proof.Machine.execLoadReadEnd s
  | .standbyTimerExpiry => Sys2Proof.Machine.execStandbyTimerExpiry s
  | .wakeEnd => Sys2Proof.Machine.execWakeEnd s
  | .leaseExpiry => Sys2Proof.Machine.execLeaseExpiry s
  | .stallExpiry p => Sys2Proof.Machine.execStallExpiry p s
  | .portReset p => Sys2Proof.Machine.execPortReset p s
  | .portResetRelease p => Sys2Proof.Machine.execPortResetRelease p s
  | .partReset begun => Sys2Proof.Machine.execPartReset begun s
  | .partResetRelease => Sys2Proof.Machine.execPartResetRelease s
  | .powerOn begun => Sys2Proof.Machine.execPowerOn begun s
  | .powerLoss begun => Sys2Proof.Machine.execPowerLoss begun s
  | .frameByte byte => Sys2Proof.Machine.execFrameByte byte s
  | .frameEnd => Sys2Proof.Machine.execFrameEnd s

end Sys2Proof.Machine
end

