-- ==== Sys2Proof/Safety.lean ====
section
/-! DEFINITION. The laws that the spec states of the machine at all times, as decidable properties of a state, and when
a step of the part is due. Each law is kept by every step (Obligations). -/

namespace Sys2Proof.Machine

/-! ### The port units -/

/-- The queue law (R60): at most 4 entries, only the oldest may be ACTIVE, and no two carry the same tag. -/
def PortUnit.queueLaw (u : PortUnit) : Bool :=
  decide (u.queue.length ≤ 4) && u.queue.tail.all (fun e => e.active.isNone) &&
    decide ((u.queue.map Entry.tag).Nodup)

/-- The completion law (R159): records and reserved slots never exceed 8, and a slot is reserved exactly while an entry
is ACTIVE. -/
def PortUnit.completionLaw (u : PortUnit) : Bool :=
  decide (u.completions.length + u.reserved ≤ 8) && decide (u.reserved = flagCode u.activeEntry.isSome)

/-- The notice set is part of the watch set (R167). -/
def PortUnit.noticeLaw (u : PortUnit) : Bool := decide (u.notice &&& u.watch = u.notice)

/-- The values SETUP sets and the key budget lie in their ranges (R13, R79, R87, R101, R144). -/
def PortUnit.figuresLaw (u : PortUnit) : Bool :=
  decide (u.guarantee ≤ 4) && decide (max u.guarantee 1 ≤ u.limit) && decide (u.limit ≤ 12) &&
    decide (u.transferUnit ∈ [32, 64, 128, 256, 512]) && decide (u.stallSetting ≤ 255) && decide (u.vote ≤ 255) &&
    decide (u.budget ≤ 4)

/-- A law holds at each of the three ports. -/
def State.atPorts (s : State) (law : PortUnit → Bool) : Bool := law (s.port .a) && law (s.port .b) && law (s.port .c)

/-! ### The pool -/

/-- The pool law (R86): the 24 buffers are free or held, and the free count covers the three unmet guarantees. -/
def State.poolLaw (s : State) : Bool :=
  decide (s.heldCount ≤ Config.poolSize) &&
    decide ((s.port .a).unmet + (s.port .b).unmet + (s.port .c).unmet ≤ s.freeCount)

/-! ### The table -/

/-- The staged table, while there is one (R46). -/
def TableState.staged : TableState → Option Table
  | .free => none
  | .claimed _ t _ _ => some t
  | .committing _ t _ => some t
  | .updating _ => none

/-- The new table of a table segment in flight (R25). -/
def State.newTable (s : State) : Option Table :=
  match s.inFlight with
  | some (.segment g) =>
    match g.work with
    | .tableBlank t => some t
    | .tableHeader t => some t
    | .tableRecords t => some t
    | .readSector _ => none
    | .programSector _ _ => none
    | .blankBlock _ => none
  | some (.load _) => none
  | none => none

/-- The live table, the staged table and the new table of a table segment are valid (R20). -/
def State.tablesValid (s : State) : Bool :=
  s.live.valid && s.tableState.staged.all Table.valid && s.newTable.all Table.valid

/-- The lease lies in 1 to 255, and its timer has not counted beyond it (R42, R43). -/
def State.leaseLaw (s : State) : Bool :=
  match s.tableState with
  | .claimed _ _ lease t => decide (1 ≤ lease) && decide (lease ≤ 255) && decide (t ≤ lease * Config.ticksPerStep)
  | .committing _ _ lease => decide (1 ≤ lease) && decide (lease ≤ 255)
  | .free => true
  | .updating _ => true

/-- Every member of a port set is in another. -/
def PortSet.subset (o : PortSet) (allowed : Port → Bool) : Bool :=
  (!o.a || allowed .a) && (!o.b || allowed .b) && (!o.c || allowed .c)

/-- The open set of one index (R145): empty unless the live record is keyed, and then of permitted ports only. -/
def State.openAt (s : State) (i : Index) : Bool :=
  match s.record i with
  | none => decide (s.openSets[i] = PortSet.empty)
  | some x => if x.lock.isSome then PortSet.subset s.openSets[i] x.permits else decide (s.openSets[i] = PortSet.empty)

/-- The open-set law (R145). -/
def State.openLaw (s : State) : Bool := allIndices.all s.openAt

/-! ### The part state and the operation in flight -/

/-- No entry of the port is ACTIVE. -/
def PortUnit.noneActive (u : PortUnit) : Bool := u.queue.all fun e => e.active.isNone

/-- What holds while the part is LOADING (R16, R35, R38): the empty table stands in for the live table, the table state
is FREE, no hold, no ACTIVE entry, no open set, the array READY and the standby timer stopped. -/
def State.loadingLaw (s : State) : Bool :=
  decide (s.part = .ready) ||
    (decide (s.live = Table.empty) && decide (s.tableState = .free) && !s.held && s.atPorts PortUnit.noneActive &&
      decide (s.openSets = Vector.replicate 8 PortSet.empty) && decide (s.power = .ready) && s.standbyTimer.isNone)

/-- What is in flight agrees with the part state (R73): a read of the load only while LOADING, a segment only while the
part and the array are READY and the standby timer is stopped; nothing while RESET is asserted or there is no supply, and then the part is LOADING. -/
def State.flightLaw (s : State) : Bool :=
  match s.inFlight with
  | none => decide (s.part = .loading) || (s.powered && !s.resetLine)
  | some (.load _) => decide (s.part = .loading) && s.powered && !s.resetLine
  | some (.segment _) =>
    decide (s.part = .ready) && decide (s.power = .ready) && s.powered && !s.resetLine && s.standbyTimer.isNone

/-! ### The owner of the segment in flight and the table state -/

/-- The command of a port's ACTIVE entry. -/
def PortUnit.activeCommand (u : PortUnit) : Option QueuedCommand := u.activeEntry.map fun x => x.1.cmd

/-- The progress is of the command's own kind (R61). -/
def QueuedCommand.keeps : QueuedCommand → Progress → Bool
  | .read _ _ _, .read _ => true
  | .check _ _ _, .check _ => true
  | .write _ _ _, .write _ => true
  | .blank _ _ _, .blank _ => true
  | .wipe _ _ _, .wipe _ => true
  | .commit, .job _ => true
  | .setKey _ _ _, .job _ => true
  | .clearKey _ _, .job _ => true
  | .setRecovery _ _, .job _ => true
  | _, _ => false

/-- The work is a table segment's. -/
def Work.ofTable : Work → Bool
  | .tableBlank _ => true
  | .tableHeader _ => true
  | .tableRecords _ => true
  | .readSector _ => false
  | .programSector _ _ => false
  | .blankBlock _ => false

/-- The array work that a segment of the command can be (R68). -/
def QueuedCommand.does : QueuedCommand → Work → Bool
  | .read _ _ _, .readSector _ => true
  | .check _ _ _, .readSector _ => true
  | .write _ _ _, .programSector _ _ => true
  | .blank _ _ _, .blankBlock _ => true
  | .wipe _ _ _, w => w.ofTable || (match w with | .blankBlock _ => true | _ => false)
  | .commit, w => w.ofTable
  | .setKey _ _ _, w => w.ofTable
  | .clearKey _ _, w => w.ofTable
  | .setRecovery _ _, w => w.ofTable
  | _, _ => false

/-- A port's ACTIVE entry keeps its own kind of progress, and is abort pending only while a segment of it is in flight
(R61, R77). -/
def State.activeLaw (s : State) (p : Port) : Bool :=
  match (s.port p).activeEntry with
  | none => true
  | some (e, a) => e.cmd.keeps a.progress && (!a.abortPending || s.ownSegment p)

/-- The segment in flight is its port's ACTIVE entry's, unless that entry was removed by a port reset, and does that
command's work (R68, R71, R73). -/
def State.segmentLaw (s : State) : Bool :=
  match s.inFlight with
  | some (.segment g) =>
    g.cmd.does g.work && (g.removed || decide ((s.port g.port).activeCommand = some g.cmd))
  | some (.load _) => true
  | none => true

/-- The owner of the segment in flight and the three ACTIVE entries agree. -/
def State.ownerLaw (s : State) : Bool := s.segmentLaw && s.activeLaw .a && s.activeLaw .b && s.activeLaw .c

/-- The table state that a command of a port holds while it is ACTIVE or its segment is in flight (R41, R52). -/
def TableState.heldBy (t : TableState) (p : Port) : QueuedCommand → Bool
  | .commit =>
    match t with
    | .committing h _ _ => decide (h = p)
    | .free => false
    | .claimed _ _ _ _ => false
    | .updating _ => false
  | .wipe _ _ _ => decide (t = .updating p)
  | .setKey _ _ _ => decide (t = .updating p)
  | .clearKey _ _ => decide (t = .updating p)
  | .setRecovery _ _ => decide (t = .updating p)
  | .read _ _ _ => true
  | .check _ _ _ => true
  | .write _ _ _ => true
  | .blank _ _ _ => true
  | .openKey _ _ _ => true

/-- A removed COMMIT or table job whose segment is in flight. -/
def State.removedJob (s : State) : Option Segment :=
  match s.inFlight with
  | some (.segment g) => if g.removed && g.cmd.holdsTable then some g else none
  | some (.load _) => none
  | none => none

/-- A port's ACTIVE COMMIT or table job holds the table state, and no removed one stands beside it (R39, R41). -/
def State.jobAt (s : State) (p : Port) : Bool :=
  match (s.port p).activeCommand with
  | none => true
  | some c => s.tableState.heldBy p c && !(c.holdsTable && s.removedJob.isSome)

/-- An ACTIVE COMMIT or table job holds the table state, and so does a removed one whose segment is in flight; the two
do not stand together (R39, R41, R57, R58). -/
def State.jobLaw (s : State) : Bool :=
  s.jobAt .a && s.jobAt .b && s.jobAt .c && s.removedJob.all fun g => s.tableState.heldBy g.port g.cmd

/-! ### What follows at once -/

/-- A port's stall timer runs exactly while its setting is not 0 and its ACTIVE command waits on the port's own data
side (R80). -/
def State.stallFollows (s : State) (p : Port) : Bool :=
  decide ((s.port p).stallTimer.isSome = (decide ((s.port p).stallSetting ≠ 0) && s.waitsOnData p))

/-- The standby timer runs exactly while the array is idle, the part READY and E not never, but for the moment between
an eligible command and its grant (R11); the stall timers follow R80; an array in STANDBY is not wanted (R15). -/
def State.timersFollow (s : State) : Bool :=
  decide (s.standbyTimer.isSome = (s.idleTimed && (s.standbyTimer.isSome || !s.wantsGrant))) &&
    s.stallFollows .a && s.stallFollows .b && s.stallFollows .c && !(decide (s.power = .standby) && s.wantsGrant)

/-! ### The progress of the ACTIVE commands -/

/-- The numeric parameters of a data command lie in their ranges at issue (R62). -/
def QueuedCommand.inIssueRange : QueuedCommand → Bool
  | .read _ start count => decide (start ≤ 16351) && decide (1 ≤ count) && decide (count ≤ 256)
  | .check _ start count => decide (start ≤ 16351) && decide (1 ≤ count) && decide (count ≤ 256)
  | .write _ start count => decide (start ≤ 16351) && decide (1 ≤ count) && decide (count ≤ 256)
  | .blank _ first count => decide (first ≤ 1021) && decide (1 ≤ count) && decide (count ≤ 1022)
  | .wipe _ _ _ => true
  | .commit => true
  | .openKey _ _ _ => true
  | .setKey _ _ _ => true
  | .clearKey _ _ => true
  | .setRecovery _ _ => true

/-- The segment of the port's ACTIVE entry that is in flight is a block blank. -/
def State.ownBlank (s : State) (p : Port) : Bool :=
  s.ownSegment p &&
  match s.inFlight with
  | some (.segment g) =>
    (match g.work with
     | .blankBlock _ => true
     | .readSector _ => false
     | .programSector _ _ => false
     | .tableBlank _ => false
     | .tableHeader _ => false
     | .tableRecords _ => false)
  | some (.load _) => false
  | none => false

/-- The progress of an ACTIVE data command or WIPE on the record of its partition: its range lies inside the partition,
and its next sector or block is the one after those done, one further while that one is in flight (R107, R118, R122, R129,
R134). -/
def State.progressInside (s : State) (p : Port) (x : Partition) : QueuedCommand → Progress → Bool
  | .read _ start count, .read r =>
    decide (start + count ≤ x.blockCount * Config.blockSectors) &&
      (r.readingClosed ||
        (decide (r.sectorsRead < count) &&
          decide (r.nextSector = start + r.sectorsRead + flagCode (s.ownSegment p))))
  | .check _ start count, .check c =>
    decide (start + count ≤ x.blockCount * Config.blockSectors) &&
      decide (c.nextSector = start + c.sectorsDone + flagCode (s.ownSegment p))
  | .write _ start count, .write w =>
    decide (start + count ≤ x.blockCount * Config.blockSectors) && decide (w.nextSector = start + w.sectorsDone)
  | .blank _ first count, .blank b =>
    decide (first + count ≤ x.blockCount) && decide (b.nextBlock = first + b.blocksDone + flagCode (s.ownSegment p))
  | .wipe _ _ _, .wipe w =>
    decide (w.nextBlock = w.blocksDone + flagCode (s.ownBlank p)) && (!w.tableDue || decide (x.blockCount ≤ w.blocksDone))
  | _, _ => true

/-- The ACTIVE entry of a port acts on a defined partition and stays inside it. -/
def State.progressAt (s : State) (p : Port) : Bool :=
  match (s.port p).activeEntry with
  | none => true
  | some (e, a) =>
    match e.cmd.actsOn with
    | none => true
    | some i =>
      match s.record i with
      | none => false
      | some x => s.progressInside p x e.cmd a.progress

/-- The sectors of the work lie in the array and, but for a table segment's, outside blocks 0 and 1 (R7). -/
def Work.inUserSpace : Work → Bool
  | .readSector n => decide (32 ≤ n) && decide (n < Config.sectorCount)
  | .programSector n _ => decide (32 ≤ n) && decide (n < Config.sectorCount)
  | .blankBlock b => decide (2 ≤ b) && decide (b < Config.arrayBlocks)
  | .tableBlank _ => true
  | .tableHeader _ => true
  | .tableRecords _ => true

/-- The data segment in flight keeps off blocks 0 and 1 (R7). -/
def State.segmentInside (s : State) : Bool :=
  match s.inFlight with
  | some (.segment g) => g.work.inUserSpace
  | some (.load _) => true
  | none => true

/-- Every ACTIVE command's progress stays inside its live record, every queued range is one that R62 admits, and the data
segment in flight keeps off blocks 0 and 1 (R7, R108). -/
def State.progressLaw (s : State) : Bool :=
  s.atPorts (fun u => u.queue.all fun e => e.cmd.inIssueRange) && s.progressAt .a && s.progressAt .b && s.progressAt .c &&
    s.segmentInside

/-! ### The transfer lists (R91) -/

/-- The states of a WRITE's list: IN_ARRAY, then FULL, then FILLING. -/
def writeForm : List BufferState → Bool
  | .inArray :: rest => fullForm rest
  | l => fullForm l
where
  /-- FULL buffers, then at most one FILLING buffer. -/
  fullForm : List BufferState → Bool
    | [] => true
    | [.filling] => true
    | .full :: rest => fullForm rest
    | _ => false

/-- The states of a READ's list: DRAINING, then READY, then IN_ARRAY. -/
def readForm : List BufferState → Bool
  | .draining :: rest => readyForm rest
  | l => readyForm l
where
  /-- READY buffers, then at most one IN_ARRAY buffer. -/
  readyForm : List BufferState → Bool
    | [] => true
    | [.inArray] => true
    | .ready :: rest => readyForm rest
    | _ => false

/-- A segment that uses a buffer of the port's list is in flight, its entry removed or not (R91, R104). -/
def State.bufferInFlight (s : State) (p : Port) : Bool :=
  match s.inFlight with
  | some (.segment g) =>
    decide (g.port = p) && (match g.cmd with
      | .read _ _ _ => true
      | .write _ _ _ => true
      | _ => false)
  | some (.load _) => false
  | none => false

/-- The transfer list of a port has the form of its ACTIVE command (R91), and holds an IN_ARRAY buffer exactly while a
segment that uses one is in flight; a port without an ACTIVE READ or WRITE holds no other buffer (R104). -/
def State.listLaw (s : State) (p : Port) : Bool :=
  let states := (s.port p).transfers.map Buffer.state
  decide ((BufferState.inArray ∈ states) ↔ s.bufferInFlight p = true) &&
  match (s.port p).activeCommand with
  | some (.read _ _ _) => readForm states
  | some (.write _ _ _) => writeForm states
  | _ => decide (states = []) || decide (states = [.inArray])

/-! ### What is due -/

/-- The start of a port's oldest entry is due (R64). -/
def State.startDue (s : State) (p : Port) : Bool := s.mayStart p

/-- A grant is due (R72). -/
def State.grantDue (s : State) : Bool := s.mayGrant && s.anyEligible

/-- The start of some port's oldest entry is due. -/
def State.anyStartDue (s : State) : Bool := s.startDue .a || s.startDue .b || s.startDue .c

/-- A step is prompt: while a start is due, the command at the front of the queue is a due start, so that the commands
which start at one moment are judged together (R72); while a grant alone is due, it is the grant, or a due expiry of the
standby timer that is taken before it (R12). The spec's machine takes prompt steps only (R64 "as soon as", R72 "at once";
log 4). -/
def State.prompt (s : State) : Bool :=
  if s.anyStartDue then
    match s.pending with
    | .commandStart p :: _ => s.startDue p
    | _ => false
  else if s.grantDue then
    match s.pending with
    | .segmentGrant :: _ => true
    | .standbyTimerExpiry :: _ => s.standbyDue
    | _ => false
  else true

/-! ### Words of the statements -/

/-- An answer that carries its code alone (R176). -/
def codeAlone (c : Word) : Vector Word 8 := #v[c, 0, 0, 0, 0, 0, 0, 0]

/-- An answer with one value in ANSWER1 (R176). -/
def codeWith (c v : Word) : Vector Word 8 := #v[c, v, 0, 0, 0, 0, 0, 0]

/-- The state with the port's eight answer words replaced and the access made: port C's frame moves past the word
(R174, R176). -/
def State.answered (s : State) (p : Port) (ws : Vector Word 8) : State :=
  (s.setPort p { s.port p with answers := ws }).passWord p

/-- The state after an issue is accepted: a QUEUED entry at the tail of the queue, and ACCEPTED with the number of
entries (R62); `stage` is the port's key stage afterwards (R153). -/
def State.enqueued (s : State) (p : Port) (tag : Byte) (cmd : QueuedCommand) (stage : Option Key) : State :=
  (s.setPort p
    { s.port p with
      queue := (s.port p).queue ++ [{ tag := tag, cmd := cmd, active := none }], keyStage := stage,
      answers := codeWith 0x21 (BitVec.ofNat 16 ((s.port p).queue.length + 1)) }).passWord p

/-- The key that PARAM4 to PARAM11 hold (R175): byte 2k is the low byte of PARAM(4 + k), byte 2k + 1 its high byte. -/
def PortUnit.keyGiven (u : PortUnit) (key : Key) : Prop :=
  ∀ k : Fin 8, key[2 * k.val] = u.params[4 + k.val].setWidth 8 ∧
    key[2 * k.val + 1] = (u.params[4 + k.val] >>> 8).setWidth 8

/-- A number that names a port, 0 for NONE (R178). -/
def namesPort (n : Nat) : Option Port → Prop
  | none => n = 0
  | some .a => n = 1
  | some .b => n = 2
  | some .c => n = 3

/-- A number that names a port set: bit 0 for A, bit 1 for B, bit 2 for C (R178). -/
def namesPortSet (n : Nat) (r : PortSet) : Prop :=
  n < 8 ∧ r = { a := n.testBit 0, b := n.testBit 1, c := n.testBit 2 }

/-- A number that names a key comparison partner (R178). -/
def namesWhich (n : Nat) : Which → Prop
  | .partition => n = 0
  | .recovery => n = 1

/-- The writer is among the readers (R20). -/
def amongReaders (w : Option Port) (r : PortSet) : Prop := ∃ p, w = some p ∧ r.get p = true

/-- A block that belongs to a defined record other than i (R48, R50). -/
def Table.blockTaken (t : Table) (i : Index) (b : Nat) : Prop :=
  ∃ j : Index, ∃ x : Partition, j ≠ i ∧ t.records[j] = some x ∧ x.firstBlock ≤ b ∧ b < x.firstBlock + x.blockCount

/-- The ACTIVE entry of a port has ended with a record: the record is posted, the slot given up, the entry gone from the
queue, the buffers freed but for one that a removed entry's segment still uses, the offset 0, the stall timer stopped
(R67, R94, R95, R160). -/
def State.endedWith (s : State) (p : Port) (r : Completion) : State :=
  s.setPort p
    { s.port p with
      queue := (s.port p).queue.tail, completions := (s.port p).completions ++ [r],
      reserved := (s.port p).reserved - 1, transfers := (s.port p).keptBuffers (s.removedSegment p), offset := 0,
      moved := 0, stallTimer := none }

/-- The oldest entry of a port, with the entries behind it, may start (R64). -/
def State.startReady (s : State) (p : Port) (e : Entry) (rest : List Entry) : Prop :=
  s.part = .ready ∧ (s.port p).queue = e :: rest ∧ e.active = none ∧ (∀ x ∈ rest, x.active = none) ∧
    (s.port p).completions.length + (s.port p).reserved < 8

/-- The state after a start that ends the command at once with a record in the slot it reserved (R66). -/
def State.startEnded (s : State) (p : Port) (rest : List Entry) (r : Completion) : State :=
  s.setPort p { s.port p with queue := rest, completions := (s.port p).completions ++ [r] }

/-- The state after a start that makes the command ACTIVE with the given progress (R66, R95). -/
def State.startActive (s : State) (p : Port) (e : Entry) (rest : List Entry) (pr : Progress) : State :=
  s.setPort p
    { s.port p with
      queue := { e with active := some { progress := pr, abortPending := false } } :: rest,
      reserved := (s.port p).reserved + 1, moved := 0 }

/-- The record of a command that ends at its start: tag, command, status and the partition it names (R117, R147). -/
def startRecordOf (tag : Byte) (code : Nat) (st : Status) (i : Option Index) : Completion :=
  { Completion.bare tag code st with partition := i }

end Sys2Proof.Machine
end

