-- ==== Sys2Proof/Certificates/Slice0/Obligations.lean ====
section
/-! DEFINITION. The statements about the K36: one definition per obligation, each a proposition that its name and
docstring state. A statement that gives the whole next state gives its frame too: what it does not name is as before.
An access of port C is made only inside a frame at its location and in its direction (`accessMade`; the model's choice,
log 11). "log n" names a row of notes/assumptions. -/

open Sys2Proof Sys2Proof.Machine

/-! ### The machine -/

/-- With a command at the front of the queue, a step is that command's meaning on the state with the queue's rest. -/
def Obligations.StepRunsTheFrontCommand : Prop :=
  ∀ (s : State) (c : Instr) (rest : List Instr), s.pending = c :: rest → step s = exec c { s with pending := rest }

/-- With no command waiting (the model's choice, log 5) an expiry that is due takes place, one in a step: the standby
timer's when it has run for E, then the lease timer's when it has counted the lease, then the stall timers' of A, B and C
when they have counted their settings. When none is due, 10 ms pass: a running standby timer, lease timer or stall timer
counts one more until it has counted its length, and nothing else changes. -/
def Obligations.IdleStepCountsTheTimers : Prop :=
  (∀ (s : State),
    (s.standbyDue = true ↔ ∃ n, s.standbyTimer = some n ∧ s.interval * 10 ≤ n) ∧
    (s.leaseDue = true ↔ ∃ h staged lease n, s.tableState = .claimed h staged lease n ∧ lease * 10 ≤ n) ∧
    (∀ p, s.stallDue p = true ↔
      ∃ n, (s.port p).stallTimer = some n ∧ (s.port p).stallSetting ≤ n ∧ s.waitsOnData p = true)) ∧
  ∀ (s : State), s.pending = [] →
    (s.standbyDue = true → step s = exec .standbyTimerExpiry s) ∧
    (s.standbyDue = false →
      (s.leaseDue = true → step s = exec .leaseExpiry s) ∧
      (s.leaseDue = false →
        (s.stallDue .a = true → step s = exec (.stallExpiry .a) s) ∧
        (s.stallDue .a = false → s.stallDue .b = true → step s = exec (.stallExpiry .b) s) ∧
        (s.stallDue .a = false → s.stallDue .b = false → s.stallDue .c = true →
          step s = exec (.stallExpiry .c) s) ∧
        ((∀ p, s.stallDue p = false) →
          ∃ t, step s = .next t ∧
            t = { s with standbyTimer := t.standbyTimer, tableState := t.tableState, ports := t.ports } ∧
            (t.standbyTimer = s.standbyTimer.map fun n => if n < s.interval * 10 then n + 1 else n) ∧
            (∀ h staged lease n, s.tableState = .claimed h staged lease n →
              t.tableState = .claimed h staged lease (if n < lease * 10 then n + 1 else n)) ∧
            ((∀ h staged lease n, s.tableState ≠ .claimed h staged lease n) → t.tableState = s.tableState) ∧
            (∀ p, t.port p =
              { s.port p with
                stallTimer :=
                  (s.port p).stallTimer.map fun n => if n < (s.port p).stallSetting then n + 1 else n }))))

/-- The machine right after reset: the part LOADING with the first read of the load in flight, the array READY, the
standby timer stopped, the last granted port C, the table state FREE, the hold not in force, every change count 0, every
open set empty, and every port with its queues, words, sets, events and timers empty or 0, G 2, L 6, U 512 and budget 4.
That RESET is already released and the first read in flight is the model's choice (log 32). -/
def Obligations.ResetLeavesTheStatedValues : Prop :=
  State.reset.part = .loading ∧ State.reset.inFlight = some (.load []) ∧ State.reset.power = .ready ∧
    State.reset.standbyTimer = none ∧ State.reset.lastGranted = .c ∧ State.reset.tableState = .free ∧
    State.reset.held = false ∧ State.reset.interval = 0 ∧ State.reset.freeCount = 24 ∧
    (∀ i : Index, State.reset.counts[i] = 0 ∧ State.reset.openSets[i] = { a := false, b := false, c := false }) ∧
    ∀ p, (State.reset.port p).queue = [] ∧ (State.reset.port p).completions = [] ∧
      (State.reset.port p).reserved = 0 ∧ (∀ k : Fin 12, (State.reset.port p).params[k] = 0) ∧
      (∀ k : Fin 8, (State.reset.port p).answers[k] = 0) ∧ (State.reset.port p).guarantee = 2 ∧
      (State.reset.port p).limit = 6 ∧ (State.reset.port p).transfers = [] ∧ (State.reset.port p).offset = 0 ∧
      (State.reset.port p).transferUnit = 512 ∧ (State.reset.port p).stallSetting = 0 ∧
      (State.reset.port p).stallTimer = none ∧ (State.reset.port p).vote = 0 ∧ (State.reset.port p).events = 0 ∧
      (State.reset.port p).enables = 0 ∧ (State.reset.port p).watch = 0 ∧ (State.reset.port p).notice = 0 ∧
      (State.reset.port p).budget = 4 ∧ (State.reset.port p).keyStage = none

/-- Every law that the invariants below say every step keeps holds right after reset. -/
def Obligations.LawsHoldAtReset : Prop :=
  Memory.wf State.reset.array = true ∧ State.reset.atPorts PortUnit.queueLaw = true ∧
    State.reset.atPorts PortUnit.completionLaw = true ∧ State.reset.atPorts PortUnit.noticeLaw = true ∧
    State.reset.atPorts PortUnit.figuresLaw = true ∧ State.reset.poolLaw = true ∧ State.reset.tablesValid = true ∧
    State.reset.leaseLaw = true ∧ State.reset.openLaw = true ∧ State.reset.loadingLaw = true ∧
    State.reset.flightLaw = true ∧ State.reset.ownerLaw = true ∧ State.reset.jobLaw = true ∧
    State.reset.timersFollow = true ∧ State.reset.progressLaw = true ∧ ∀ p, State.reset.listLaw p = true

/-- No command is ever refused, and none but a grant can fault: in every state each has a next state. A grant faults
only for a sector or block that the array does not have (the model's own fault, log 21). While the tables are valid (R20)
and every ACTIVE command's progress is inside its live record (`progressLaw`, which every step keeps,
SegmentKeepsItsOwner), no grant faults, and every data segment keeps off blocks 0 and 1 (R7). -/
def Obligations.EveryCommandHasANextState : Prop :=
  (∀ (c : Instr) (s : State), c ≠ .segmentGrant → ∃ t, exec c s = .next t) ∧
    (∀ (s : State), (∃ t, exec .segmentGrant s = .next t) ∨
      (exec .segmentGrant s = .fault .noSuchSector ∧
        ∃ p e a w, s.grantee = some p ∧ s.nextWork p = some (e, a, w) ∧
          ((∃ n, w = .readSector n ∧ 16384 ≤ n) ∨ (∃ n d, w = .programSector n d ∧ 16384 ≤ n) ∨
            ∃ b, w = .blankBlock b ∧ 1024 ≤ b))) ∧
    ∀ (s : State), s.tablesValid = true → s.progressLaw = true →
      (∃ t, exec .segmentGrant s = .next t) ∧
      ∀ w, (∃ p e a, s.nextWork p = some (e, a, w)) ∨ (∃ g, s.inFlight = some (.segment g) ∧ g.work = w) →
        (∀ n, w = .readSector n → 32 ≤ n ∧ n < 16384) ∧ (∀ n d, w = .programSector n d → 32 ≤ n ∧ n < 16384) ∧
        (∀ b, w = .blankBlock b → 2 ≤ b ∧ b < 1024)

/-! ### What every step keeps -/

/-- Every step keeps the array in its canonical form: sector numbers strictly rising. -/
def Obligations.ArrayFormIsKept : Prop :=
  ∀ (s t : State), Memory.wf s.array = true → step s = .next t → Memory.wf t.array = true

/-- Every step keeps the queue law (R60): at most 4 entries, only the oldest ACTIVE, no two with the same tag. -/
def Obligations.QueueLawIsKept : Prop :=
  ∀ (s t : State), s.atPorts PortUnit.queueLaw = true → step s = .next t → t.atPorts PortUnit.queueLaw = true

/-- Every step keeps the completion law (R159): records and reserved slots never exceed 8, and a slot is reserved
exactly while an entry is ACTIVE. -/
def Obligations.CompletionLawIsKept : Prop :=
  ∀ (s t : State), s.atPorts PortUnit.queueLaw = true → s.atPorts PortUnit.completionLaw = true → step s = .next t →
    t.atPorts PortUnit.completionLaw = true

/-- Every step keeps the pool law (R86): the free count covers the three unmet guarantees. -/
def Obligations.PoolLawIsKept : Prop :=
  ∀ (s t : State), s.poolLaw = true → step s = .next t → t.poolLaw = true

/-- Every step keeps the values that SETUP sets, and the key budgets, in their ranges. -/
def Obligations.SetupFiguresStayInRange : Prop :=
  ∀ (s t : State), s.poolLaw = true → s.atPorts PortUnit.figuresLaw = true → step s = .next t →
    t.atPorts PortUnit.figuresLaw = true

/-- Every step keeps the notice set part of the watch set, and the lease of a claim in 1 to 255 with its timer not
beyond it. -/
def Obligations.NoticesAndLeasesStayInBounds : Prop :=
  ∀ (s t : State), step s = .next t →
    (s.atPorts PortUnit.noticeLaw = true → t.atPorts PortUnit.noticeLaw = true) ∧
      (s.leaseLaw = true → t.leaseLaw = true)

/-- Every step keeps the live table, the staged table and the table being written valid (R20). -/
def Obligations.TablesStayValid : Prop :=
  ∀ (s t : State), s.tablesValid = true → step s = .next t → t.tablesValid = true

/-- Every step keeps what holds while the part is LOADING, and keeps what is in flight in agreement with the part
state. -/
def Obligations.LoadingAndFlightLawsAreKept : Prop :=
  ∀ (s t : State), s.loadingLaw = true → s.flightLaw = true → step s = .next t →
    t.loadingLaw = true ∧ t.flightLaw = true

/-- Every step keeps the law of the open sets (R145): a port is in one only while the partition is keyed and permits
it. -/
def Obligations.OpenSetLawIsKept : Prop :=
  ∀ (s t : State), s.loadingLaw = true → s.flightLaw = true → s.openLaw = true → step s = .next t → t.openLaw = true

/-- Every step keeps the segment in flight with its owner (R71, R73): it is its port's ACTIVE command's unless that was
removed by a reset, and a command is abort pending only while a segment of it is in flight. Every step keeps each ACTIVE
command's progress inside its live record, each queued range one that R62 admits, and the data segment in flight off
blocks 0 and 1 (R7, R108). -/
def Obligations.SegmentKeepsItsOwner : Prop :=
  ∀ (s t : State), s.atPorts PortUnit.queueLaw = true → s.flightLaw = true → s.ownerLaw = true → step s = .next t →
    t.ownerLaw = true ∧
      (s.loadingLaw = true → s.tablesValid = true → s.progressLaw = true → t.progressLaw = true)

/-- Every step keeps the table state with the job that holds it (R39, R41, R57, R58). -/
def Obligations.TableStateFollowsItsJob : Prop :=
  ∀ (s t : State), s.atPorts PortUnit.queueLaw = true → s.ownerLaw = true → s.jobLaw = true → step s = .next t →
    t.jobLaw = true

/-- Every step keeps the standby timer and the stall timers running exactly as R11 and R80 say, and no array stays in
STANDBY while a grant is wanted (R15). That the standby timer does not start between an eligible command and its grant is
the model's reading (log 22). -/
def Obligations.TimersFollowTheirConditions : Prop :=
  ∀ (s t : State), s.atPorts PortUnit.queueLaw = true → s.loadingLaw = true → s.flightLaw = true →
    s.timersFollow = true → step s = .next t → t.timersFollow = true

/-- Every step keeps the transfer lists in the forms of R91, with an IN_ARRAY buffer exactly while a segment that uses
one is in flight. -/
def Obligations.TransferListsKeepTheirForm : Prop :=
  ∀ (s t : State), s.atPorts PortUnit.queueLaw = true → s.flightLaw = true → s.ownerLaw = true →
    (∀ p, s.listLaw p = true) → step s = .next t → ∀ p, t.listLaw p = true

/-! ### Issues of queued commands -/

/-- An issue of READ, CHECK, WRITE or BLANK with its parameters in range, a free place in the queue and a tag of its
own joins the queue as QUEUED and answers ACCEPTED with the number of entries (R62, R177). -/
def Obligations.DataIssuesAreAccepted : Prop :=
  ∀ (s : State) (p : Port) (tag : Byte) (i : Index) (x y : Nat),
    s.accessMade p false 0 = true → (s.port p).queue.length < 4 → (∀ e ∈ (s.port p).queue, e.tag ≠ tag) →
    (s.port p).params[0].toNat = i.val → (s.port p).params[1].toNat = x → (s.port p).params[2].toNat = y →
    (x ≤ 16351 → 1 ≤ y → y ≤ 256 →
      exec (.read p tag) s = .next (s.enqueued p tag (.read i x y) (s.port p).keyStage) ∧
      exec (.check p tag) s = .next (s.enqueued p tag (.check i x y) (s.port p).keyStage) ∧
      exec (.write p tag) s = .next (s.enqueued p tag (.write i x y) (s.port p).keyStage)) ∧
    (x ≤ 1021 → 1 ≤ y → y ≤ 1022 →
      exec (.blank p tag) s = .next (s.enqueued p tag (.blank i x y) (s.port p).keyStage))

/-- An issue of WIPE, COMMIT, OPEN, SET_KEY, CLEAR_KEY or SET_RECOVERY with its parameters in range, a free place in the
queue and a tag of its own joins the queue; SET_RECOVERY takes the key stage as its old value (R62, R153, R175). -/
def Obligations.TableAndKeyIssuesAreAccepted : Prop :=
  ∀ (s : State) (p : Port) (tag : Byte) (key : Key),
    s.accessMade p false 0 = true → (s.port p).queue.length < 4 → (∀ e ∈ (s.port p).queue, e.tag ≠ tag) →
    (s.port p).keyGiven key →
    exec (.commit p tag) s = .next (s.enqueued p tag .commit (s.port p).keyStage) ∧
    exec (.setRecovery p tag) s = .next (s.enqueued p tag (.setRecovery key (s.port p).keyStage) none) ∧
    ∀ i : Index, (s.port p).params[0].toNat = i.val →
      exec (.clearKey p tag) s = .next (s.enqueued p tag (.clearKey i key) (s.port p).keyStage) ∧
      (∀ which, namesWhich (s.port p).params[1].toNat which →
        exec (.wipe p tag) s = .next (s.enqueued p tag (.wipe i which key) (s.port p).keyStage) ∧
        exec (.openKey p tag) s = .next (s.enqueued p tag (.openKey i which key) (s.port p).keyStage)) ∧
      ((s.port p).params[1].toNat = 0 →
        exec (.setKey p tag) s = .next (s.enqueued p tag (.setKey i key .standard) (s.port p).keyStage)) ∧
      ((s.port p).params[1].toNat = 1 →
        exec (.setKey p tag) s = .next (s.enqueued p tag (.setKey i key .strict) (s.port p).keyStage))

/-- A refused issue changes nothing but the ANSWER words: QUEUE_FULL with 4 entries, then TAG_IN_USE, then BAD_PARAM for
a parameter outside its range; a code that is not one of the part's answers BAD_COMMAND (R62, R176). -/
def Obligations.IssuesAreRefusedInOrder : Prop :=
  ∀ (s : State) (p : Port) (tag : Byte), s.accessMade p false 0 = true →
    (∀ word, (Instr.badCommand p word).wf = true →
      exec (.badCommand p word) s = .next (s.answered p (codeAlone 0x22))) ∧
    (∀ c ∈ [Instr.read p tag, .check p tag, .write p tag, .blank p tag, .wipe p tag, .commit p tag, .openKey p tag,
        .setKey p tag, .clearKey p tag, .setRecovery p tag],
      (4 ≤ (s.port p).queue.length → exec c s = .next (s.answered p (codeAlone 0x23))) ∧
      ((s.port p).queue.length < 4 → (∃ e ∈ (s.port p).queue, e.tag = tag) →
        exec c s = .next (s.answered p (codeAlone 0x24)))) ∧
    ((s.port p).queue.length < 4 → (∀ e ∈ (s.port p).queue, e.tag ≠ tag) →
      (∀ c ∈ [Instr.read p tag, .check p tag, .write p tag],
        7 < (s.port p).params[0].toNat ∨ 16351 < (s.port p).params[1].toNat ∨ (s.port p).params[2].toNat < 1 ∨
            256 < (s.port p).params[2].toNat →
          exec c s = .next (s.answered p (codeAlone 0x25))) ∧
      (7 < (s.port p).params[0].toNat ∨ 1021 < (s.port p).params[1].toNat ∨ (s.port p).params[2].toNat < 1 ∨
          1022 < (s.port p).params[2].toNat →
        exec (.blank p tag) s = .next (s.answered p (codeAlone 0x25))) ∧
      (∀ c ∈ [Instr.wipe p tag, .openKey p tag, .setKey p tag],
        7 < (s.port p).params[0].toNat ∨ 1 < (s.port p).params[1].toNat →
          exec c s = .next (s.answered p (codeAlone 0x25))) ∧
      (7 < (s.port p).params[0].toNat → exec (.clearKey p tag) s = .next (s.answered p (codeAlone 0x25))))

/-- A write of the ISSUE location runs the command that the word names, with the parameter words as they stand (R171,
R176, R177), and a write of DATA, EVENTS or EVENT_ENABLE acts as the command of that location (R171). REGISTER_WRITE
spells such writes too (the model's choice, log 24). -/
def Obligations.IssueWriteRunsTheNamedCommand : Prop :=
  ∀ (s : State) (p : Port) (w : Word),
    exec (.registerWrite p 0 w) s = exec (decodeIssue p (s.port p).params[0] w) s ∧
    exec (.registerWrite p 21 w) s = exec (.dataWrite p w) s ∧
    exec (.registerWrite p 22 w) s = exec (.eventsWrite p w) s ∧
    exec (.registerWrite p 23 w) s = exec (.eventEnableWrite p w) s

/-- Writing an issue as an ISSUE word and reading that word back gives the issue: no code is shared, and every bit of
the tag is kept. INFO's two rows share a code and are told apart by the selector (R176, R177, R181; the model's choice,
log 23). -/
def Obligations.IssueWordsReadBack : Prop :=
  ∀ (c : Instr) (p : Port) (w selector : Word), c.wf = true → encodeIssue c = some (p, w) →
    (c = .infoPart p → selector = 8) → (c = .infoPartition p → selector ≠ 8) → decodeIssue p selector w = c

/-! ### The window -/

/-- REGISTER_WRITE stores a parameter word at locations 1 to 12 and changes nothing at locations 13 to 20 and 24 to 31
(R171); an access while the port's PRST or RESET is asserted changes nothing, and such a read returns 0 (R173). While the
port takes accesses, locations 1 to 12 read as the parameter words, 13 to 20 as the answer words, 23 as the six enables,
and 0 and 25 to 31 as 0 (R171). Reads other than of DATA are a function, not a command (the model's choice, log 29); the
data output 0 after a DATA read that is not taken is R173's. -/
def Obligations.RegisterWritesStoreParameters : Prop :=
  ∀ (s : State) (p : Port) (loc : Fin 32) (w : Word),
    (s.accessMade p false loc.val = true →
      (∀ k : Fin 12, loc.val = k.val + 1 →
        exec (.registerWrite p loc w) s =
          .next ((s.setPort p { s.port p with params := (s.port p).params.set k.val w }).passWord p)) ∧
      ((13 ≤ loc.val ∧ loc.val ≤ 20) ∨ 24 ≤ loc.val → exec (.registerWrite p loc w) s = .next (s.passWord p))) ∧
    ((s.port p).prst = true ∨ s.resetLine = true →
      exec (.registerWrite p loc w) s = .next s ∧ exec (.dataWrite p w) s = .next s ∧
      exec (.eventsWrite p w) s = .next s ∧ exec (.eventEnableWrite p w) s = .next s ∧
      exec (.dataRead p) s = .next (s.setPort p { s.port p with dataOut := 0 }) ∧
      s.windowRead p loc.val = 0) ∧
    (s.takesAccess p = true →
      (∀ k : Fin 12, s.windowRead p (k.val + 1) = (s.port p).params[k]) ∧
      (∀ k : Fin 8, s.windowRead p (k.val + 13) = (s.port p).answers[k]) ∧
      (∀ k, (s.windowRead p 23).getLsbD k = (s.port p).enables.getLsbD k) ∧
      (loc.val = 0 ∨ 25 ≤ loc.val → s.windowRead p loc.val = 0))

/-- A write of EVENTS clears the latched events whose bits are one and no other; a write of EVENT_ENABLE sets the six
enables all at once (R164, R165, R171). -/
def Obligations.EventWritesActOnTheirOwnBits : Prop :=
  ∀ (s : State) (p : Port) (w : Word),
    (s.accessMade p false 22 = true →
      exec (.eventsWrite p w) s =
        .next ((s.setPort p
          { s.port p with
            latched :=
              { table := (s.port p).latched.table && !w.getLsbD 2,
                claimLost := (s.port p).latched.claimLost && !w.getLsbD 3,
                dataRefused := (s.port p).latched.dataRefused && !w.getLsbD 4,
                ready := (s.port p).latched.ready && !w.getLsbD 5 } }).passWord p)) ∧
    (s.accessMade p false 23 = true →
      exec (.eventEnableWrite p w) s =
        .next ((s.setPort p { s.port p with enables := w.setWidth 6 }).passWord p))

/-- While the port takes accesses, ATTN is asserted exactly while some event is set and enabled (R163, R165), EVENTS shows
the six events (R163, R171), XFER is asserted exactly while at least U bytes, or the whole rest of the transfer, can be
moved (R101), and PORT_STATUS shows the port's condition (R172, R40). While it takes none because PRST or RESET is asserted,
ATTN and XFER are negated and every read gives 0 (R173, R182, R183); that the same holds without supply is the model's
choice (log 15). The bytes remaining and available are those of R100. -/
def Obligations.OutputsFollowTheState : Prop :=
  ∀ (s : State) (p : Port),
    (s.takesAccess p = true →
      (s.attn p = true ↔
        ((s.port p).completions ≠ [] ∧ (s.port p).enables.getLsbD 0 = true) ∨
        ((s.port p).notice ≠ 0 ∧ (s.port p).enables.getLsbD 1 = true) ∨
        ((s.port p).latched.table = true ∧ (s.port p).enables.getLsbD 2 = true) ∨
        ((s.port p).latched.claimLost = true ∧ (s.port p).enables.getLsbD 3 = true) ∨
        ((s.port p).latched.dataRefused = true ∧ (s.port p).enables.getLsbD 4 = true) ∨
        ((s.port p).latched.ready = true ∧ (s.port p).enables.getLsbD 5 = true)) ∧
      ((s.windowRead p 22).getLsbD 0 = true ↔ (s.port p).completions ≠ []) ∧
      ((s.windowRead p 22).getLsbD 1 = true ↔ (s.port p).notice ≠ 0) ∧
      (s.windowRead p 22).getLsbD 2 = (s.port p).latched.table ∧
      (s.windowRead p 22).getLsbD 3 = (s.port p).latched.claimLost ∧
      (s.windowRead p 22).getLsbD 4 = (s.port p).latched.dataRefused ∧
      (s.windowRead p 22).getLsbD 5 = (s.port p).latched.ready ∧
      (∀ k, 6 ≤ k → (s.windowRead p 22).getLsbD k = false) ∧
      (s.xfer p = true ↔
        (s.port p).transferUnit ≤ s.available p ∨
          ((s.port p).remaining < (s.port p).transferUnit ∧ (s.port p).remaining ≤ s.available p ∧
            0 < (s.port p).remaining)) ∧
      ((s.port p).queue.length ≤ 4 → (s.port p).completions.length ≤ 8 →
        ((s.windowRead p 24).extractLsb' 0 3).toNat = (s.port p).queue.length ∧
        ((s.windowRead p 24).extractLsb' 3 4).toNat = (s.port p).completions.length ∧
        (s.windowRead p 24).getLsbD 7 = s.xfer p ∧
        ((s.windowRead p 24).getLsbD 8 = true ↔ s.part = .ready) ∧
        ((s.windowRead p 24).extractLsb' 9 3).toNat =
          (match s.tableState with
           | .free => 0
           | .claimed h _ _ _ => if h = p then 1 else 2
           | .committing _ _ _ => 3
           | .updating _ => 4) ∧
        ((s.windowRead p 24).getLsbD 12 = true ↔ ∃ e rest, (s.port p).queue = e :: rest ∧ e.active ≠ none) ∧
        (∀ k, 13 ≤ k → (s.windowRead p 24).getLsbD k = false))) ∧
    (s.takesAccess p = false → s.attn p = false ∧ s.xfer p = false ∧ ∀ loc, s.windowRead p loc = 0) ∧
    ((∀ e a, (s.port p).activeEntry = some (e, a) →
        a.abortPending = true ∨
          (∀ i start count, e.cmd ≠ .read i start count ∧ e.cmd ≠ .write i start count)) →
      (s.port p).remaining = 0 ∧ s.available p = 0) ∧
    (∀ e a i start count w, (s.port p).activeEntry = some (e, a) → a.abortPending = false →
      e.cmd = .write i start count → a.progress = .write w →
      (s.port p).remaining = count * 512 - (s.port p).moved ∧
      (∀ older b, (s.port p).transfers = older ++ [b] → b.state = .filling →
        s.available p = 512 - (s.port p).offset) ∧
      ((∀ b, (s.port p).transfers.getLast? = some b → b.state ≠ .filling) →
        s.available p = if (s.port p).moved < count * 512 ∧ s.mayTake p = true then 512 else 0)) ∧
    (∀ e a i start count r, (s.port p).activeEntry = some (e, a) → a.abortPending = false →
      e.cmd = .read i start count → a.progress = .read r →
      (r.failAt = none → (s.port p).remaining = count * 512 - (s.port p).moved) ∧
      (∀ f, r.failAt = some f → (s.port p).remaining = (f - start) * 512 - (s.port p).moved) ∧
      (∀ b rest, (s.port p).transfers = b :: rest →
        (b.state = .draining → s.available p = 512 - (s.port p).offset) ∧ (b.state = .ready → s.available p = 512) ∧
        (b.state ≠ .draining → b.state ≠ .ready → s.available p = 0)) ∧
      ((s.port p).transfers = [] → s.available p = 0))

/-! ### The claim and the edits -/

/-- CLAIM answers by the first case of R42 that applies, and takes or renews the claim in the cases that give DONE. -/
def Obligations.ClaimAnswersInOrder : Prop :=
  ∀ (s : State) (p : Port) (lease : Nat), s.accessMade p false 0 = true → (s.port p).params[0].toNat = lease →
    (s.part = .loading → exec (.claim p) s = .next (s.answered p (codeAlone 0x26))) ∧
    (s.part = .ready → lease = 0 ∨ 255 < lease → exec (.claim p) s = .next (s.answered p (codeAlone 0x25))) ∧
    (s.part = .ready → 1 ≤ lease → lease ≤ 255 →
      (s.held = true → exec (.claim p) s = .next (s.answered p (codeAlone 0x11))) ∧
      (s.held = false →
        (s.tableState = .free →
          exec (.claim p) s =
            .next ({ s with tableState := .claimed p s.live lease 0 }.answered p
              #v[0x20, s.live.generation.setWidth 16, (s.live.generation >>> 16).setWidth 16, 0, 0, 0, 0, 0])) ∧
        (∀ staged old t, s.tableState = .claimed p staged old t →
          exec (.claim p) s =
            .next ({ s with tableState := .claimed p staged lease 0 }.answered p
              #v[0x20, s.live.generation.setWidth 16, (s.live.generation >>> 16).setWidth 16, 0, 0, 0, 0, 0])) ∧
        (∀ h staged old t n, h ≠ p → s.tableState = .claimed h staged old t → namesPort n (some h) →
          exec (.claim p) s = .next (s.answered p (codeWith 0x0F (BitVec.ofNat 16 n)))) ∧
        ((∃ h staged old, s.tableState = .committing h staged old) ∨ (∃ j, s.tableState = .updating j) →
          exec (.claim p) s = .next (s.answered p (codeAlone 0x10)))))

/-- DISCARD answers NOT_READY while LOADING; by the holder in CLAIMED it drops the claim and answers DONE; by the holder
in COMMITTING it answers TABLE_BUSY; in every other case NOT_HOLDER. Nothing else changes (R45). -/
def Obligations.DiscardDropsTheHoldersClaim : Prop :=
  ∀ (s : State) (p : Port), s.accessMade p false 0 = true →
    (s.part = .loading → exec (.discard p) s = .next (s.answered p (codeAlone 0x26))) ∧
    (s.part = .ready →
      (∀ staged lease t, s.tableState = .claimed p staged lease t →
        exec (.discard p) s = .next ({ s with tableState := .free }.answered p (codeAlone 0x20))) ∧
      (∀ staged lease, s.tableState = .committing p staged lease →
        exec (.discard p) s = .next (s.answered p (codeAlone 0x10))) ∧
      ((∀ staged lease t, s.tableState ≠ .claimed p staged lease t) →
        (∀ staged lease, s.tableState ≠ .committing p staged lease) →
        exec (.discard p) s = .next (s.answered p (codeAlone 0x0E))))

/-- The gate of the four edits, whatever their parameters (R47): NOT_READY while LOADING, TABLE_BUSY to the holder in
COMMITTING, NOT_HOLDER to a port that is not the holder in CLAIMED. Nothing else changes. -/
def Obligations.EditsPassTheGate : Prop :=
  ∀ (s : State) (p : Port), s.accessMade p false 0 = true →
    ∀ c ∈ [Instr.define p, .delete p, .resize p, .modify p],
      (s.part = .loading → exec c s = .next (s.answered p (codeAlone 0x26))) ∧
      (s.part = .ready →
        (∀ staged lease, s.tableState = .committing p staged lease →
          exec c s = .next (s.answered p (codeAlone 0x10))) ∧
        ((∀ staged lease t, s.tableState ≠ .claimed p staged lease t) →
          (∀ staged lease, s.tableState ≠ .committing p staged lease) →
          exec c s = .next (s.answered p (codeAlone 0x0E))))

/-- DEFINE by the holder in CLAIMED tests its cases in the order of R48; when it is taken, the record of the index has
the values given, no key and no key_mode, and nothing else of the staged table changes. In a valid staged table, which
every step keeps (TablesStayValid), DEFINE is taken when no block given belongs to another record. -/
def Obligations.DefineTestsInOrder : Prop :=
  ∀ (s : State) (p : Port) (staged : Table) (lease t a0 a1 a2 a3 a4 : Nat),
    s.accessMade p false 0 = true → s.part = .ready → s.tableState = .claimed p staged lease t →
    (s.port p).params[0].toNat = a0 → (s.port p).params[1].toNat = a1 → (s.port p).params[2].toNat = a2 →
    (s.port p).params[3].toNat = a3 → (s.port p).params[4].toNat = a4 →
    (7 < a0 → exec (.define p) s = .next (s.answered p (codeAlone 0x25))) ∧
    ∀ i : Index, a0 = i.val →
      ((∃ x, staged.records[i] = some x) → exec (.define p) s = .next (s.answered p (codeAlone 0x27))) ∧
      (staged.records[i] = none →
        (a1 < 2 ∨ 1023 < a1 ∨ a2 < 1 ∨ 1022 < a2 ∨ 1024 < a1 + a2 ∨ 3 < a3 ∨ 7 < a4 ∨
            (∃ w r, namesPort a3 w ∧ namesPortSet a4 r ∧ amongReaders w r) →
          exec (.define p) s = .next (s.answered p (codeAlone 0x25))) ∧
        (∀ w r, 2 ≤ a1 → a1 ≤ 1023 → 1 ≤ a2 → a2 ≤ 1022 → a1 + a2 ≤ 1024 → namesPort a3 w → namesPortSet a4 r →
          ¬ amongReaders w r →
          ((∃ b, a1 ≤ b ∧ b < a1 + a2 ∧ staged.blockTaken i b) →
            exec (.define p) s = .next (s.answered p (codeAlone 0x28))) ∧
          (s.tablesValid = true → (∀ b, a1 ≤ b → b < a1 + a2 → ¬ staged.blockTaken i b) →
            exec (.define p) s =
              .next ({ s with
                tableState :=
                  .claimed p
                    { staged with
                      records := staged.records.set i
                        (some { firstBlock := a1, blockCount := a2, writer := w, readers := r, lock := none }) }
                    lease t }.answered p (codeAlone 0x20)))))

/-- DELETE, RESIZE and MODIFY by the holder in CLAIMED test their cases in the order of R49, R50 and R51; when taken
they change the one record, and DELETE alone removes a key. In a valid staged table, which every step keeps
(TablesStayValid), RESIZE is taken when no block added belongs to another record. -/
def Obligations.DeleteResizeModifyTestInOrder : Prop :=
  ∀ (s : State) (p : Port) (staged : Table) (lease t a0 a1 a2 : Nat),
    s.accessMade p false 0 = true → s.part = .ready → s.tableState = .claimed p staged lease t →
    (s.port p).params[0].toNat = a0 → (s.port p).params[1].toNat = a1 → (s.port p).params[2].toNat = a2 →
    (7 < a0 → ∀ c ∈ [Instr.delete p, .resize p, .modify p], exec c s = .next (s.answered p (codeAlone 0x25))) ∧
    ∀ i : Index, a0 = i.val →
      (staged.records[i] = none →
        ∀ c ∈ [Instr.delete p, .resize p, .modify p], exec c s = .next (s.answered p (codeAlone 0x0A))) ∧
      (∀ x, staged.records[i] = some x →
        exec (.delete p) s =
          .next ({ s with
            tableState := .claimed p { staged with records := staged.records.set i none } lease t }.answered p
              (codeAlone 0x20)) ∧
        (a1 < 1 ∨ 1022 < a1 ∨ 1024 < x.firstBlock + a1 →
          exec (.resize p) s = .next (s.answered p (codeAlone 0x25))) ∧
        (1 ≤ a1 → a1 ≤ 1022 → x.firstBlock + a1 ≤ 1024 →
          ((∃ b, x.firstBlock + x.blockCount ≤ b ∧ b < x.firstBlock + a1 ∧ staged.blockTaken i b) →
            exec (.resize p) s = .next (s.answered p (codeAlone 0x28))) ∧
          (s.tablesValid = true →
            (∀ b, x.firstBlock + x.blockCount ≤ b → b < x.firstBlock + a1 → ¬ staged.blockTaken i b) →
            exec (.resize p) s =
              .next ({ s with
                tableState :=
                  .claimed p { staged with records := staged.records.set i (some { x with blockCount := a1 }) }
                    lease t }.answered p (codeAlone 0x20)))) ∧
        (3 < a1 ∨ 7 < a2 ∨ (∃ w r, namesPort a1 w ∧ namesPortSet a2 r ∧ amongReaders w r) →
          exec (.modify p) s = .next (s.answered p (codeAlone 0x25))) ∧
        (∀ w r, namesPort a1 w → namesPortSet a2 r → ¬ amongReaders w r →
          exec (.modify p) s =
            .next ({ s with
              tableState :=
                .claimed p { staged with records := staged.records.set i (some { x with writer := w, readers := r }) }
                  lease t }.answered p (codeAlone 0x20))))

/-- HOLD answers in the order of R156: NOT_READY while LOADING, DONE while it is in force, DONE in FREE, where it comes
into force, TABLE_BUSY otherwise. -/
def Obligations.HoldIsTakenInFree : Prop :=
  ∀ (s : State) (p : Port), s.accessMade p false 0 = true →
    (s.part = .loading → exec (.hold p) s = .next (s.answered p (codeAlone 0x26))) ∧
    (s.part = .ready →
      (s.held = true → exec (.hold p) s = .next (s.answered p (codeAlone 0x20))) ∧
      (s.held = false → s.tableState = .free →
        exec (.hold p) s = .next ({ s with held := true }.answered p (codeAlone 0x20))) ∧
      (s.held = false → s.tableState ≠ .free → exec (.hold p) s = .next (s.answered p (codeAlone 0x10))))

/-! ### Keys, aborts, completions, notices, information and setup -/

/-- CLOSE removes the issuing port from the partition's open set and answers DONE with 1 when it was in it and 0 when it
was not; NOT_READY while LOADING; BAD_PARAM for an index above 7. Nothing else changes (R148). -/
def Obligations.CloseLeavesTheOpenSet : Prop :=
  ∀ (s : State) (p : Port), s.accessMade p false 0 = true →
    (s.part = .loading → exec (.close p) s = .next (s.answered p (codeAlone 0x26))) ∧
    (s.part = .ready →
      (7 < (s.port p).params[0].toNat → exec (.close p) s = .next (s.answered p (codeAlone 0x25))) ∧
      ∀ i : Index, (s.port p).params[0].toNat = i.val →
        exec (.close p) s =
          .next ({ s with openSets := s.openSets.set i ((s.openSets[i]).set p false) }.answered p
            (codeWith 0x20 (if (s.openSets[i]).get p then 1 else 0))))

/-- STAGE_KEY answers DONE in every state; the key stage takes the key given, or becomes absent when that is all zero
bytes (R153). -/
def Obligations.StageKeyHoldsTheKey : Prop :=
  ∀ (s : State) (p : Port) (key : Key), s.accessMade p false 0 = true → (s.port p).keyGiven key →
    exec (.stageKey p) s =
      .next ((s.setPort p
        { s.port p with
          keyStage := if key = Vector.replicate 16 0 then none else some key, answers := codeAlone 0x20 }).passWord p)

/-- ABORT of a QUEUED entry removes it with no record; a tag that no entry carries answers NOT_FOUND, a tag above 255
BAD_PARAM (R75, R78, R178). -/
def Obligations.AbortRemovesAQueuedEntry : Prop :=
  ∀ (s : State) (p : Port), s.accessMade p false 0 = true →
    (255 < (s.port p).params[0].toNat → exec (.abort p) s = .next (s.answered p (codeAlone 0x25))) ∧
    ((s.port p).params[0].toNat ≤ 255 → (∀ e ∈ (s.port p).queue, e.tag.toNat ≠ (s.port p).params[0].toNat) →
      exec (.abort p) s = .next (s.answered p (codeAlone 0x2A))) ∧
    (∀ pre e post, (s.port p).queue = pre ++ e :: post → e.active = none →
      e.tag.toNat = (s.port p).params[0].toNat → (∀ x ∈ pre, x.tag ≠ e.tag) →
      exec (.abort p) s =
        .next ((s.setPort p { s.port p with queue := pre ++ post, answers := codeAlone 0x20 }).passWord p))

/-- ABORT of the ACTIVE entry: with no segment of it in flight it ends ABORTED at once, and a COMMIT returns to CLAIMED
with the lease timer restarted, a key job or a WIPE to FREE (R76, R55, R41); with one in flight it becomes abort pending
and nothing else changes (R77). The record of an entry that ends ABORTED carries the fields that R117, R120, R128, R131,
R137, R162 and section 8.10 give. -/
def Obligations.AbortEndsTheActiveEntry : Prop :=
  (∀ (s : State) (e : Entry) (i : Index) (n m : Nat) (which : Which) (key : Key) (mode : KeyMode) (old : Option Key)
      (due : Bool),
    (∀ r, e.cmd = .read i n m →
      s.endRecord e (.read r) .aborted =
        { Completion.bare e.tag 1 .aborted with
          partition := some i, sectorsDone := some r.sectorsDone, blankMet := some r.blankMet, failAt := r.failAt,
          genStart := some r.genStart, genEnd := some s.counts[i] }) ∧
    (∀ c, e.cmd = .check i n m →
      s.endRecord e (.check c) .aborted =
        { Completion.bare e.tag 2 .aborted with
          partition := some i, sectorsDone := some c.sectorsDone, blankMet := some c.blankMet,
          damagedMet := some c.damagedMet, firstDamaged := c.firstDamaged }) ∧
    (∀ w, e.cmd = .write i n m →
      s.endRecord e (.write w) .aborted =
        { Completion.bare e.tag 3 .aborted with
          partition := some i, sectorsDone := some w.sectorsDone, failAt := w.failAt }) ∧
    (∀ b, e.cmd = .blank i n m →
      s.endRecord e (.blank b) .aborted =
        { Completion.bare e.tag 4 .aborted with
          partition := some i, sectorsDone := some (16 * b.blocksDone) }) ∧
    (∀ k, e.cmd = .wipe i which key →
      s.endRecord e (.wipe k) .aborted =
        { Completion.bare e.tag 5 .aborted with
          partition := some i, sectorsDone := some (16 * k.blocksDone) }) ∧
    (e.cmd = .commit →
      s.endRecord e (.job due) .aborted =
        { Completion.bare e.tag 6 .aborted with generation := some s.live.generation }) ∧
    (e.cmd = .setKey i key mode →
      s.endRecord e (.job due) .aborted = { Completion.bare e.tag 8 .aborted with partition := some i }) ∧
    (e.cmd = .clearKey i key →
      s.endRecord e (.job due) .aborted = { Completion.bare e.tag 9 .aborted with partition := some i }) ∧
    (e.cmd = .setRecovery key old → s.endRecord e (.job due) .aborted = Completion.bare e.tag 10 .aborted)) ∧
  ∀ (s : State) (p : Port) (e : Entry) (a : Active),
    s.accessMade p false 0 = true → (s.port p).activeEntry = some (e, a) →
    e.tag.toNat = (s.port p).params[0].toNat →
    (s.ownSegment p = true →
      exec (.abort p) s =
        .next ((s.setPort p
          { s.port p with
            queue := { e with active := some { a with abortPending := true } } :: (s.port p).queue.tail,
            answers := codeAlone 0x20 }).settle.passWord p)) ∧
    (s.ownSegment p = false →
      exec (.abort p) s =
        .next (({ (s.endedWith p (s.endRecord e a.progress .aborted)) with
          tableState :=
            match e.cmd, s.tableState with
            | .commit, .committing h staged lease => .claimed h staged lease 0
            | .wipe _ _ _, _ => .free
            | .setKey _ _ _, _ => .free
            | .clearKey _ _, _ => .free
            | .setRecovery _ _, _ => .free
            | _, other => other }.answer p (codeAlone 0x20)).settle.passWord p))

/-- POP removes the oldest record and places it in the ANSWER words; with no record it answers EMPTY (R161). -/
def Obligations.PopGivesTheOldestRecord : Prop :=
  ∀ (s : State) (p : Port), s.accessMade p false 0 = true →
    ((s.port p).completions = [] → exec (.pop p) s = .next (s.answered p (codeAlone 0x29))) ∧
    (∀ r rest, (s.port p).completions = r :: rest →
      exec (.pop p) s = .next ((s.setPort p { s.port p with completions := rest, answers := r.words }).passWord p))

/-- The layout of a popped record (R179): tag, command code, partition, status and presence word in their places; a
READ's or CHECK's counts with their ninth bits; a READ's two change counts; a generation where the command carries one; 0
in the place of an absent field and in every place that the command's layout does not name. The statuses have the codes
of R178. -/
def Obligations.RecordsAreLaidOut : Prop :=
  (∀ x ∈ [(Status.ok, 0x01), (.okChanged, 0x02), (.unreadable, 0x03), (.notBlank, 0x04), (.programFault, 0x05),
      (.commitFault, 0x06), (.aborted, 0x07), (.stalled, 0x08), (.partitionChanged, 0x09), (.notDefined, 0x0A),
      (.noAccess, 0x0B), (.locked, 0x0C), (.outOfRange, 0x0D), (.notHolder, 0x0E), (.claimed, 0x0F),
      (.tableBusy, 0x10), (.holdActive, 0x11), (.notKeyed, 0x12), (.budgetSpent, 0x13), (.keyMismatch, 0x14),
      (.modeRefused, 0x15)], x.1.code = x.2) ∧
  ∀ (r : Completion), r.code < 32 →
    (∀ k, (r.words[0]).getLsbD k =
      if k < 8 then r.tag.getLsbD k else if k < 13 then r.code.testBit (k - 8)
      else if k < 16 then (match r.partition with | none => false | some i => i.val.testBit (k - 13)) else false) ∧
    (∀ k, k < 5 → (r.words[1]).getLsbD k = r.status.code.testBit k) ∧
    (r.words[1]).getLsbD 5 = r.partition.isSome ∧ (r.words[1]).getLsbD 6 = r.sectorsDone.isSome ∧
    (r.words[1]).getLsbD 7 = r.failAt.isSome ∧ (r.words[1]).getLsbD 8 = r.blankMet.isSome ∧
    (r.words[1]).getLsbD 9 = r.damagedMet.isSome ∧ (r.words[1]).getLsbD 10 = r.firstDamaged.isSome ∧
    (r.words[1]).getLsbD 11 = r.genStart.isSome ∧ (r.words[1]).getLsbD 12 = r.genEnd.isSome ∧
    (r.words[1]).getLsbD 13 = r.generation.isSome ∧
    (r.code = 1 ∨ r.code = 2 →
      (r.words[1]).getLsbD 14 = (r.sectorsDone.getD 0).testBit 8 ∧
      (r.words[1]).getLsbD 15 = (r.blankMet.getD 0).testBit 8 ∧
      ∀ k, k < 8 → (r.words[2]).getLsbD k = (r.sectorsDone.getD 0).testBit k ∧
        (r.words[2]).getLsbD (k + 8) = (r.blankMet.getD 0).testBit k) ∧
    (r.code = 3 ∨ r.code = 4 ∨ r.code = 5 → r.words[2] = BitVec.ofNat 16 (r.sectorsDone.getD 0)) ∧
    (r.code = 1 ∨ r.code = 3 → r.words[3] = BitVec.ofNat 16 (r.failAt.getD 0)) ∧
    (r.code = 2 → r.words[3] = BitVec.ofNat 16 (r.firstDamaged.getD 0) ∧
      r.words[4] = BitVec.ofNat 16 (r.damagedMet.getD 0)) ∧
    (r.code = 1 → r.words[4] = (r.genStart.getD 0).setWidth 16 ∧
      r.words[5] = (r.genStart.getD 0 >>> 16).setWidth 16 ∧ r.words[6] = (r.genEnd.getD 0).setWidth 16 ∧
      r.words[7] = (r.genEnd.getD 0 >>> 16).setWidth 16) ∧
    (r.code = 5 → r.words[3] = (r.generation.getD 0).setWidth 16 ∧
      r.words[4] = (r.generation.getD 0 >>> 16).setWidth 16) ∧
    (r.code = 6 ∨ r.code = 8 ∨ r.code = 9 ∨ r.code = 10 → r.words[2] = (r.generation.getD 0).setWidth 16 ∧
      r.words[3] = (r.generation.getD 0 >>> 16).setWidth 16) ∧
    (r.code ≠ 1 → r.words[5] = 0 ∧ r.words[6] = 0 ∧ r.words[7] = 0) ∧
    (r.code ≠ 1 → r.code ≠ 2 → (r.words[1]).getLsbD 14 = false ∧ (r.words[1]).getLsbD 15 = false) ∧
    (r.code = 4 ∨ r.code = 7 → r.words[3] = 0) ∧ (r.code = 7 → r.words[2] = 0) ∧
    (r.code ≠ 1 → r.code ≠ 2 → r.code ≠ 5 → r.words[4] = 0)

/-- WATCH replaces the watch set and keeps of the notice set what is still watched (R168); NOTICES answers the notice
set and empties it (R170). -/
def Obligations.WatchAndNoticesActOnTheirSets : Prop :=
  ∀ (s : State) (p : Port), s.accessMade p false 0 = true →
    (s.part = .loading → exec (.watch p) s = .next (s.answered p (codeAlone 0x26))) ∧
    (s.part = .ready → 255 < (s.port p).params[0].toNat →
      exec (.watch p) s = .next (s.answered p (codeAlone 0x25))) ∧
    (s.part = .ready → (s.port p).params[0].toNat ≤ 255 →
      exec (.watch p) s =
        .next ((s.setPort p
          { s.port p with
            watch := (s.port p).params[0].setWidth 8,
            notice := (s.port p).notice &&& (s.port p).params[0].setWidth 8, answers := codeAlone 0x20 }).passWord p)) ∧
    exec (.notices p) s =
      .next ((s.setPort p
        { s.port p with notice := 0, answers := codeWith 0x20 ((s.port p).notice.setWidth 16) }).passWord p)

/-- INFO with selector 8 answers the part record in every state; with selector 0 to 7 the partition record, from the
staged table for the holder, NOT_READY while LOADING; above 8 BAD_PARAM. Nothing but the ANSWER words changes (R181). -/
def Obligations.InfoAnswersItsRecord : Prop :=
  ∀ (s : State) (p : Port), s.accessMade p false 0 = true →
    ((s.port p).params[0].toNat = 8 →
      ∃ state port, exec (.infoPart p) s =
        .next (s.answered p
          #v[0x20, 0x0136, 16384,
            BitVec.ofNat 16
              (24 + (if s.part = .ready then 256 else 0) + (if s.held then 512 else 0) +
                (if s.live.recovery.isSome then 1024 else 0) + 2048 * state + 8192 * port),
            s.live.generation.setWidth 16, (s.live.generation >>> 16).setWidth 16,
            BitVec.ofNat 16
              ((match s.power with | .ready => 0 | .standby => 1 | .waking => 2) + 256 * s.interval), 0]) ∧
        (match s.tableState with
         | .free => state = 0 ∧ port = 0
         | .claimed h _ _ _ => state = 1 ∧ namesPort port (some h)
         | .committing h _ _ => state = 2 ∧ namesPort port (some h)
         | .updating j => state = 3 ∧ namesPort port (some j))) ∧
    (8 < (s.port p).params[0].toNat → exec (.infoPartition p) s = .next (s.answered p (codeAlone 0x25))) ∧
    ∀ i : Index, (s.port p).params[0].toNat = i.val →
      (s.part = .loading → exec (.infoPartition p) s = .next (s.answered p (codeAlone 0x26))) ∧
      (s.part = .ready →
        ∀ (r : Record) (fromStaged : Nat) (oc : Nat),
          ((∃ staged lease t, s.tableState = .claimed p staged lease t ∧ r = staged.records[i] ∧ fromStaged = 1) ∨
            (∃ staged lease, s.tableState = .committing p staged lease ∧ r = staged.records[i] ∧ fromStaged = 1) ∨
            ((∀ staged lease t, s.tableState ≠ .claimed p staged lease t) ∧
              (∀ staged lease, s.tableState ≠ .committing p staged lease) ∧ r = s.live.records[i] ∧
              fromStaged = 0)) →
          namesPortSet oc s.openSets[i] →
          (r = none →
            exec (.infoPartition p) s =
              .next (s.answered p
                #v[0x20, BitVec.ofNat 16 (256 * oc + 2048 * fromStaged), 0, 0, 0, (s.counts[i]).setWidth 16,
                  (s.counts[i] >>> 16).setWidth 16, 0])) ∧
          (∀ x wc rc, r = some x → namesPort wc x.writer → namesPortSet rc x.readers →
            exec (.infoPartition p) s =
              .next (s.answered p
                #v[0x20,
                  BitVec.ofNat 16
                    (1 + 2 * wc + 8 * rc + (if x.lock.isSome then 64 else 0) +
                      (if x.lock.map KeyLock.mode = some .strict then 128 else 0) + 256 * oc + 2048 * fromStaged),
                  BitVec.ofNat 16 x.firstBlock, BitVec.ofNat 16 x.blockCount, BitVec.ofNat 16 (x.firstBlock * 16),
                  (s.counts[i]).setWidth 16, (s.counts[i] >>> 16).setWidth 16, 0])))

/-- SETUP takes all five values together when each is in its range and the free count covers the unmet guarantee the
port would have beside the other ports'; it answers BAD_PARAM, or POOL_BUSY, and changes none otherwise (R180, R102). A
changed stall setting restarts a running stall timer (R79), a changed E a running standby timer (R14). E is 0 for never
while some vote is 0, and the greatest of the three votes otherwise (R13). -/
def Obligations.SetupTakesAllFiveOrNone : Prop :=
  (∀ (s : State),
    ((∃ p, (s.port p).vote = 0) → s.interval = 0) ∧
    ((∀ p, (s.port p).vote ≠ 0) → (∀ p, (s.port p).vote ≤ s.interval) ∧ ∃ p, (s.port p).vote = s.interval)) ∧
  ∀ (s : State) (p : Port) (a0 a1 a2 a3 a4 : Nat), s.accessMade p false 0 = true →
    (s.port p).params[0].toNat = a0 → (s.port p).params[1].toNat = a1 → (s.port p).params[2].toNat = a2 →
    (s.port p).params[3].toNat = a3 → (s.port p).params[4].toNat = a4 →
    ((a0 ∉ [32, 64, 128, 256, 512] ∨ 255 < a1 ∨ 255 < a2 ∨ 4 < a3 ∨ a4 < max a3 1 ∨ 12 < a4) →
      exec (.setup p) s = .next (s.answered p (codeAlone 0x25))) ∧
    (a0 ∈ [32, 64, 128, 256, 512] → a1 ≤ 255 → a2 ≤ 255 → a3 ≤ 4 → max a3 1 ≤ a4 → a4 ≤ 12 →
      (s.freeCount < (a3 - (s.port p).holding) + s.othersUnmet p →
        exec (.setup p) s = .next (s.answered p (codeAlone 0x2B))) ∧
      ((a3 - (s.port p).holding) + s.othersUnmet p ≤ s.freeCount →
        ∀ s1, s1 = s.setPort p
            { s.port p with
              transferUnit := a0, stallSetting := a1, vote := a2, guarantee := a3, limit := a4,
              stallTimer :=
                if a1 = (s.port p).stallSetting then (s.port p).stallTimer else (s.port p).stallTimer.map fun _ => 0,
              answers := codeAlone 0x20 } →
          exec (.setup p) s =
            .next ({ s1 with
              standbyTimer :=
                if s1.interval = s.interval then s.standbyTimer else s.standbyTimer.map fun _ => 0 }.settle.passWord
                p)))

/-! ### The data window -/

/-- A DATA write of an ACTIVE WRITE that is not abort pending and has bytes left (R96): into the FILLING buffer, whose
512th byte makes it FULL and restarts the stall timer (R81), or into a buffer taken under the allocation rule. In every
other case it is dropped: DATA_REFUSED is set and nothing else changes (R98). The rule allows a taking while the holding is
below the limit and either below the guarantee or beyond what the two other ports' unmet guarantees need (R85, R86, R88);
that a buffer must be free is read from R85 (log 19). -/
def Obligations.DataWritesFillOrAreDropped : Prop :=
  (∀ (s : State) (p q r : Port) (free unmet : Nat), p ≠ q → p ≠ r → q ≠ r →
    free = 24 - ((s.port p).transfers.length + (s.port q).transfers.length + (s.port r).transfers.length) →
    unmet = ((s.port q).guarantee - (s.port q).transfers.length) +
      ((s.port r).guarantee - (s.port r).transfers.length) →
    s.freeCount = free ∧ s.othersUnmet p = unmet ∧
      (s.mayTake p = true ↔
        0 < free ∧ (s.port p).transfers.length < (s.port p).limit ∧
          ((s.port p).transfers.length < (s.port p).guarantee ∨ unmet ≤ free - 1))) ∧
  ∀ (s : State) (p : Port) (w : Word), s.accessMade p false 21 = true →
    (∀ e a i start count, (s.port p).activeEntry = some (e, a) → e.cmd = .write i start count →
      a.abortPending = false → (s.port p).moved < count * 512 →
      (∀ older b, (s.port p).transfers = older ++ [b] → b.state = .filling →
        ((s.port p).offset + 2 < 512 →
          exec (.dataWrite p w) s =
            .next ((s.setPort p
              { s.port p with
                transfers :=
                  older ++ [{ b with data := b.data.take (s.port p).offset ++
                    [w.setWidth 8, (w >>> 8).setWidth 8] }],
                offset := (s.port p).offset + 2, moved := (s.port p).moved + 2 }).settle.passWord p)) ∧
        ((s.port p).offset + 2 = 512 →
          exec (.dataWrite p w) s =
            .next ((s.setPort p
              { s.port p with
                transfers :=
                  older ++ [{ b with state := .full, data := b.data.take (s.port p).offset ++
                    [w.setWidth 8, (w >>> 8).setWidth 8] }],
                offset := 0, moved := (s.port p).moved + 2,
                stallTimer := (s.port p).stallTimer.map fun _ => 0 }).settle.passWord p))) ∧
      ((∀ b, (s.port p).transfers.getLast? = some b → b.state ≠ .filling) →
        (s.mayTake p = true →
          exec (.dataWrite p w) s =
            .next ((s.setPort p
              { s.port p with
                transfers :=
                  (s.port p).transfers ++
                    [{ state := .filling, data := [w.setWidth 8, (w >>> 8).setWidth 8], sector := none,
                       blankMark := false }],
                offset := 2, moved := (s.port p).moved + 2 }).settle.passWord p)) ∧
        (s.mayTake p = false →
          exec (.dataWrite p w) s =
            .next ((s.setPort p
              { s.port p with latched := { (s.port p).latched with dataRefused := true } }).passWord p)))) ∧
    ((∀ e a i start count, (s.port p).activeEntry = some (e, a) → e.cmd = .write i start count →
        a.abortPending = true ∨ count * 512 ≤ (s.port p).moved) →
      exec (.dataWrite p w) s =
        .next ((s.setPort p
          { s.port p with latched := { (s.port p).latched with dataRefused := true } }).passWord p))

/-- A DATA read of an ACTIVE READ that is not abort pending, from an oldest buffer that is READY or DRAINING, returns the
word at the window offset (R97, R175); the 512th byte frees the buffer, counts the sector and completes the READ when
nothing is left (R112, R113). In every other case it returns 0 and sets DATA_REFUSED (R98). -/
def Obligations.DataReadsDrainOrAreEmpty : Prop :=
  ∀ (s : State) (p : Port), s.accessMade p true 21 = true →
    (∀ e a i start count r b rest, (s.port p).activeEntry = some (e, a) → e.cmd = .read i start count →
      a.progress = .read r → a.abortPending = false → (s.port p).transfers = b :: rest →
      (b.state = .ready ∨ b.state = .draining) →
      ∀ word : Word, word = b.data.getD ((s.port p).offset + 1) 0 ++ b.data.getD (s.port p).offset 0 →
      ((s.port p).offset + 2 < 512 →
        exec (.dataRead p) s =
          .next ((s.setPort p
            { s.port p with
              dataOut := word, transfers := { b with state := .draining } :: rest,
              offset := (s.port p).offset + 2, moved := (s.port p).moved + 2 }).settle.passWord p)) ∧
      ((s.port p).offset + 2 = 512 →
        ∀ r1, r1 = { r with sectorsDone := r.sectorsDone + 1, blankMet := r.blankMet + (if b.blankMark then 1 else 0) } →
        ∀ s1, s1 = s.setPort p
            { s.port p with
              dataOut := word, transfers := rest, offset := 0, moved := (s.port p).moved + 2,
              stallTimer := (s.port p).stallTimer.map fun _ => 0,
              queue := { e with active := some { a with progress := .read r1 } } :: (s.port p).queue.tail } →
        (r.readingClosed = false ∨ s.ownSegment p = true ∨ rest ≠ [] →
          exec (.dataRead p) s = .next (s1.settle.passWord p)) ∧
        (r.readingClosed = true → s.ownSegment p = false → rest = [] →
          ∀ st, st = (match r.failAt with
              | some _ => Status.unreadable
              | none => if s.counts[i] = r.genStart then .ok else .okChanged) →
          exec (.dataRead p) s =
            .next ((s1.endedWith p
              { Completion.bare e.tag 1 st with
                partition := some i, sectorsDone := some r1.sectorsDone, blankMet := some r1.blankMet,
                failAt := r.failAt, genStart := some r.genStart, genEnd := some s.counts[i] }).settle.passWord p)))) ∧
    ((∀ e a i start count r b rest, (s.port p).activeEntry = some (e, a) → e.cmd = .read i start count →
        a.progress = .read r → a.abortPending = false → (s.port p).transfers = b :: rest →
        b.state ≠ .ready ∧ b.state ≠ .draining) →
      exec (.dataRead p) s =
        .next ((s.setPort p
          { s.port p with
            dataOut := 0, latched := { (s.port p).latched with dataRefused := true } }).passWord p))

/-! ### Starts -/

/-- A command that fails a check at its start ends at once with the failing status and the partition field, in the order
of R65, R133, R146, R149 and R151: NOT_DEFINED, NO_ACCESS, LOCKED, OUT_OF_RANGE. -/
def Obligations.StartChecksFailInOrder : Prop :=
  ∀ (s : State) (p : Port) (e : Entry) (rest : List Entry) (i : Index) (n m : Nat) (which : Which) (key : Key)
    (mode : KeyMode), s.startReady p e rest →
    ∀ fails : Nat → Status → Prop,
      (∀ code st, fails code st ↔
        exec (.commandStart p) s = .next (s.startEnded p rest (startRecordOf e.tag code st (some i))).settle) →
    (s.live.records[i] = none →
      (e.cmd = .read i n m → fails 1 .notDefined) ∧ (e.cmd = .check i n m → fails 2 .notDefined) ∧
      (e.cmd = .write i n m → fails 3 .notDefined) ∧ (e.cmd = .blank i n m → fails 4 .notDefined) ∧
      (e.cmd = .wipe i which key → fails 5 .notDefined) ∧ (e.cmd = .openKey i which key → fails 7 .notDefined) ∧
      (e.cmd = .setKey i key mode → fails 8 .notDefined) ∧ (e.cmd = .clearKey i key → fails 9 .notDefined)) ∧
    ∀ x, s.live.records[i] = some x →
      (x.writer ≠ some p → x.readers.get p = false →
        (e.cmd = .read i n m → fails 1 .noAccess) ∧ (e.cmd = .check i n m → fails 2 .noAccess) ∧
        (e.cmd = .openKey i which key → fails 7 .noAccess)) ∧
      (x.writer ≠ some p →
        (e.cmd = .write i n m → fails 3 .noAccess) ∧ (e.cmd = .blank i n m → fails 4 .noAccess) ∧
        (e.cmd = .wipe i which key → fails 5 .noAccess) ∧ (e.cmd = .setKey i key mode → fails 8 .noAccess) ∧
        (e.cmd = .clearKey i key → fails 9 .noAccess)) ∧
      (x.lock ≠ none → (s.openSets[i]).get p = false →
        (x.writer = some p ∨ x.readers.get p = true →
          (e.cmd = .read i n m → fails 1 .locked) ∧ (e.cmd = .check i n m → fails 2 .locked)) ∧
        (x.writer = some p →
          (e.cmd = .write i n m → fails 3 .locked) ∧ (e.cmd = .blank i n m → fails 4 .locked) ∧
          (e.cmd = .setKey i key mode → fails 8 .locked))) ∧
      (x.lock = none ∨ (s.openSets[i]).get p = true →
        (x.writer = some p ∨ x.readers.get p = true → x.blockCount * 16 < n + m →
          (e.cmd = .read i n m → fails 1 .outOfRange) ∧ (e.cmd = .check i n m → fails 2 .outOfRange)) ∧
        (x.writer = some p →
          (x.blockCount * 16 < n + m → e.cmd = .write i n m → fails 3 .outOfRange) ∧
          (x.blockCount < n + m → e.cmd = .blank i n m → fails 4 .outOfRange)))

/-- A READ, CHECK, WRITE or BLANK that passes its start checks becomes ACTIVE with its progress set to nothing done, and
one completion slot is reserved (R64 to R66, R107, R118, R122, R129). -/
def Obligations.DataCommandsBecomeActive : Prop :=
  ∀ (s : State) (p : Port) (e : Entry) (rest : List Entry) (i : Index) (n m : Nat) (x : Partition),
    s.startReady p e rest → s.live.records[i] = some x → (x.lock = none ∨ (s.openSets[i]).get p = true) →
    (x.writer = some p ∨ x.readers.get p = true → n + m ≤ x.blockCount * 16 →
      (e.cmd = .read i n m →
        exec (.commandStart p) s =
          .next (s.startActive p e rest
            (.read { nextSector := n, sectorsRead := 0, readingClosed := false, failAt := none, sectorsDone := 0,
                     blankMet := 0, genStart := s.counts[i] })).settle) ∧
      (e.cmd = .check i n m →
        exec (.commandStart p) s =
          .next (s.startActive p e rest
            (.check { nextSector := n, sectorsDone := 0, blankMet := 0, damagedMet := 0,
                      firstDamaged := none })).settle)) ∧
    (x.writer = some p →
      (n + m ≤ x.blockCount * 16 → e.cmd = .write i n m →
        exec (.commandStart p) s =
          .next (s.startActive p e rest (.write { nextSector := n, sectorsDone := 0, failAt := none })).settle) ∧
      (n + m ≤ x.blockCount → e.cmd = .blank i n m →
        exec (.commandStart p) s =
          .next (s.startActive p e rest (.blank { nextBlock := n, blocksDone := 0 })).settle))

/-- OPEN of a defined partition by a permitted port completes at its start by the first case of R146 that decides; a
match adds the port to the open set (R147), a failed comparison lowers the budget by one (R143). -/
def Obligations.OpenComparesAndAddsThePort : Prop :=
  ∀ (s : State) (p : Port) (e : Entry) (rest : List Entry) (i : Index) (which : Which) (key : Key) (x : Partition),
    s.startReady p e rest → e.cmd = .openKey i which key → s.live.records[i] = some x →
    (x.writer = some p ∨ x.readers.get p = true) →
    ∀ ends : Status → State, (∀ st, ends st = s.startEnded p rest (startRecordOf e.tag 7 st (some i))) →
    (x.lock = none → exec (.commandStart p) s = .next (ends .ok).settle) ∧
    ∀ l, x.lock = some l →
      (which = .recovery → l.mode = .strict → exec (.commandStart p) s = .next (ends .modeRefused).settle) ∧
      (which = .partition ∨ l.mode = .standard →
        ((s.port p).budget = 0 → exec (.commandStart p) s = .next (ends .budgetSpent).settle) ∧
        ((s.port p).budget ≠ 0 →
          ((which = .partition ∧ key = l.key) ∨ (which = .recovery ∧ s.live.recovery = some key) →
            exec (.commandStart p) s =
              .next { (ends .ok) with openSets := s.openSets.set i ((s.openSets[i]).set p true) }.settle) ∧
          ((which = .partition ∧ key ≠ l.key) ∨ (which = .recovery ∧ s.live.recovery ≠ some key) →
            exec (.commandStart p) s =
              .next ((ends .keyMismatch).setPort p
                { (ends .keyMismatch).port p with budget := (s.port p).budget - 1 }).settle)))

/-- WIPE, SET_KEY, CLEAR_KEY and SET_RECOVERY past their access checks meet, in order, the hold, the table state and
their comparison (R133, R149, R151, R154, R41, R143); one that passes becomes ACTIVE and the table state UPDATING. -/
def Obligations.TableJobsStartInOrder : Prop :=
  ∀ (s : State) (p : Port) (e : Entry) (rest : List Entry) (code : Nat) (i : Option Index) (pr : Progress)
    (compared matched notKeyed : Prop), s.startReady p e rest →
    ((∃ j which key x, e.cmd = .wipe j which key ∧ s.live.records[j] = some x ∧ x.writer = some p ∧ code = 5 ∧
        i = some j ∧ pr = .wipe { nextBlock := 0, blocksDone := 0, tableDue := false } ∧ ¬ notKeyed ∧
        (compared ↔ x.lock ≠ none) ∧
        (matched ↔ (which = .partition ∧ x.lock.map KeyLock.key = some key) ∨
          (which = .recovery ∧ s.live.recovery = some key))) ∨
     (∃ j key mode x, e.cmd = .setKey j key mode ∧ s.live.records[j] = some x ∧ x.writer = some p ∧
        (x.lock = none ∨ (s.openSets[j]).get p = true) ∧ code = 8 ∧ i = some j ∧ pr = .job true ∧ ¬ notKeyed ∧
        ¬ compared) ∨
     (∃ j key x, e.cmd = .clearKey j key ∧ s.live.records[j] = some x ∧ x.writer = some p ∧ code = 9 ∧
        i = some j ∧ pr = .job true ∧ (notKeyed ↔ x.lock = none) ∧ (compared ↔ x.lock ≠ none) ∧
        (matched ↔ x.lock.map KeyLock.key = some key ∨
          (x.lock.map KeyLock.mode = some .standard ∧ s.live.recovery = some key))) ∨
     (∃ new old, e.cmd = .setRecovery new old ∧ code = 10 ∧ i = none ∧ pr = .job true ∧ ¬ notKeyed ∧
        (compared ↔ s.live.recovery ≠ none) ∧ (matched ↔ s.live.recovery = old))) →
    ∀ ends : Status → State, (∀ st, ends st = s.startEnded p rest (startRecordOf e.tag code st i)) →
    (s.held = true → exec (.commandStart p) s = .next (ends .holdActive).settle) ∧
    (s.held = false →
      (∀ h staged lease t, s.tableState = .claimed h staged lease t →
        exec (.commandStart p) s = .next (ends .claimed).settle) ∧
      ((∃ h staged lease, s.tableState = .committing h staged lease) ∨ (∃ j, s.tableState = .updating j) →
        exec (.commandStart p) s = .next (ends .tableBusy).settle) ∧
      (s.tableState = .free →
        (notKeyed → exec (.commandStart p) s = .next (ends .notKeyed).settle) ∧
        (compared → (s.port p).budget = 0 → exec (.commandStart p) s = .next (ends .budgetSpent).settle) ∧
        (compared → (s.port p).budget ≠ 0 → ¬ matched →
          exec (.commandStart p) s =
            .next ((ends .keyMismatch).setPort p
              { (ends .keyMismatch).port p with budget := (s.port p).budget - 1 }).settle) ∧
        (¬ notKeyed → (compared → (s.port p).budget ≠ 0 ∧ matched) →
          exec (.commandStart p) s =
            .next { (s.startActive p e rest pr) with tableState := .updating p }.settle)))

/-- A COMMIT that starts at the holder in CLAIMED becomes ACTIVE and the state COMMITTING; in every other case it ends
NOT_HOLDER with the live generation (R52). No entry starts while the part is LOADING, while another of the port is
ACTIVE or while no completion slot is free (R64). -/
def Obligations.CommitStartsAtTheHolder : Prop :=
  ∀ (s : State) (p : Port),
    (∀ e rest, s.startReady p e rest → e.cmd = .commit →
      (∀ staged lease t, s.tableState = .claimed p staged lease t →
        exec (.commandStart p) s =
          .next { (s.startActive p e rest (.job true)) with tableState := .committing p staged lease }.settle) ∧
      ((∀ staged lease t, s.tableState ≠ .claimed p staged lease t) →
        exec (.commandStart p) s =
          .next (s.startEnded p rest
            { Completion.bare e.tag 6 .notHolder with generation := some s.live.generation }).settle)) ∧
    (s.part = .loading ∨ (s.port p).queue = [] ∨ (∃ e ∈ (s.port p).queue, e.active ≠ none) ∨
        8 ≤ (s.port p).completions.length + (s.port p).reserved →
      exec (.commandStart p) s = .next s)

/-! ### Grants -/

/-- The arbiter grants the first eligible port after the last granted one in the order A, B, C, A (R72): its segment
goes in flight, and it is the last granted port. It grants nothing while a segment is in flight, while the part is
LOADING, while the array is not READY, or when no command is eligible. An ACTIVE command is eligible exactly when no
segment of it is in flight and the condition of R69 holds. In a prompt step (the model's choice, log 4) a grant is taken
only when no start is due, so the commands that start at one moment are judged together (R72). -/
def Obligations.GrantsGoRoundRobin : Prop :=
  (∀ (s : State) (p : Port),
    (s.ownSegment p = true ↔ ∃ g, s.inFlight = some (.segment g) ∧ g.port = p ∧ g.removed = false) ∧
    (s.removedSegment p = true ↔ ∃ g, s.inFlight = some (.segment g) ∧ g.port = p ∧ g.removed = true) ∧
    (s.eligible p = true ↔ ∃ e a w, s.nextWork p = some (e, a, w)) ∧
    (s.grantee = some p ↔
      s.eligible p = true ∧
        (p = nextPort s.lastGranted ∨
          (p = nextPort (nextPort s.lastGranted) ∧ s.eligible (nextPort s.lastGranted) = false) ∨
          (p = s.lastGranted ∧ s.eligible (nextPort s.lastGranted) = false ∧
            s.eligible (nextPort (nextPort s.lastGranted)) = false))) ∧
    ∀ e a w, s.nextWork p = some (e, a, w) ↔
      (s.port p).activeEntry = some (e, a) ∧ s.ownSegment p = false ∧
        ((∃ i x, s.live.records[i] = some x ∧
            ((∃ n m r, e.cmd = .read i n m ∧ a.progress = .read r ∧ r.readingClosed = false ∧ s.mayTake p = true ∧
                w = .readSector (x.firstBlock * 16 + r.nextSector)) ∨
              (∃ n m c, e.cmd = .check i n m ∧ a.progress = .check c ∧ c.sectorsDone < m ∧
                w = .readSector (x.firstBlock * 16 + c.nextSector)) ∨
              (∃ n m k b rest, e.cmd = .write i n m ∧ a.progress = .write k ∧ k.sectorsDone < m ∧
                (s.port p).transfers = b :: rest ∧ b.state = .full ∧
                w = .programSector (x.firstBlock * 16 + k.nextSector) b.data) ∨
              (∃ n m k, e.cmd = .blank i n m ∧ a.progress = .blank k ∧ k.blocksDone < m ∧
                w = .blankBlock (x.firstBlock + k.nextBlock)) ∨
              (∃ which key k, e.cmd = .wipe i which key ∧ a.progress = .wipe k ∧
                ((k.blocksDone < x.blockCount ∧ w = .blankBlock (x.firstBlock + k.nextBlock)) ∨
                  (x.blockCount ≤ k.blocksDone ∧ k.tableDue = true ∧ w = .tableBlank (s.composed e.cmd)))))) ∨
          (a.progress = .job true ∧ w = .tableBlank (s.composed e.cmd) ∧
            (e.cmd = .commit ∨ (∃ i key mode, e.cmd = .setKey i key mode) ∨ (∃ i key, e.cmd = .clearKey i key) ∨
              ∃ new old, e.cmd = .setRecovery new old)))) ∧
  (∀ (s : State) (rest : List Instr), s.prompt = true → s.pending = .segmentGrant :: rest → ∀ p,
    s.part = .loading ∨ (s.port p).queue = [] ∨ (∃ e ∈ (s.port p).queue, e.active ≠ none) ∨
      8 ≤ (s.port p).completions.length + (s.port p).reserved) ∧
  ∀ (s : State),
    (s.inFlight ≠ none ∨ s.part = .loading ∨ s.power ≠ .ready ∨
        (s.eligible .a = false ∧ s.eligible .b = false ∧ s.eligible .c = false) →
      exec .segmentGrant s = .next s) ∧
    (s.inFlight = none → s.part = .ready → s.power = .ready →
      ∀ q e a w, s.nextWork q = some (e, a, w) →
        (q = nextPort s.lastGranted ∨
          (q = nextPort (nextPort s.lastGranted) ∧ s.eligible (nextPort s.lastGranted) = false) ∨
          (q = s.lastGranted ∧ s.eligible (nextPort s.lastGranted) = false ∧
            s.eligible (nextPort (nextPort s.lastGranted)) = false)) →
        (∀ n, w = .readSector n → n < 16384) → (∀ n d, w = .programSector n d → n < 16384) →
        (∀ b, w = .blankBlock b → b < 1024) → (∀ new, w = .tableBlank new → s.live.generation ≠ 0xFFFFFFFF) →
        ∃ t, exec .segmentGrant s = .next t ∧ t.lastGranted = q ∧
          t.inFlight = some (.segment { port := q, cmd := e.cmd, removed := false, work := w }) ∧
          t.array = s.array ∧ t.live = s.live ∧ t.tableState = s.tableState ∧
          ∀ r, r ≠ q → (t.port r).queue = (s.port r).queue ∧ (t.port r).transfers = (s.port r).transfers)

/-- What a grant does at its port: a READ takes a buffer as IN_ARRAY and notes its sector (R109), a CHECK, BLANK or WIPE
moves on to its next sector or block (R119, R130, R134), a WRITE's oldest buffer becomes IN_ARRAY (R124), a table segment
takes the new table of R25. That the blank mark of a READ's buffer is no before its sector read ends is the model's
choice (log 35). At generation 0xFFFFFFFF a table segment is refused: no operation is handed to the array, both
slots, the live table and the current slot are as they were, and the COMMIT, key job or WIPE ends COMMIT_FAULT, a COMMIT
back in CLAIMED and the others in FREE (R27, R28, R54, R135); the standby timer does not run on across it (R11). -/
def Obligations.GrantsPutTheSegmentInFlight : Prop :=
  ∀ (s : State) (q : Port) (e : Entry) (a : Active),
    s.inFlight = none → s.part = .ready → s.power = .ready → s.grantee = some q →
    (s.port q).activeEntry = some (e, a) →
    ∀ granted : Work → Progress → List Buffer → State,
      (∀ w pr bufs, granted w pr bufs =
        ({ s with
           lastGranted := q,
           inFlight := some (.segment { port := q, cmd := e.cmd, removed := false, work := w }) }.setPort q
          { s.port q with
            queue := { e with active := some { a with progress := pr } } :: (s.port q).queue.tail,
            transfers := bufs }).settle) →
    (∀ i x, s.live.records[i] = some x →
      (∀ n m r, e.cmd = .read i n m → a.progress = .read r → r.readingClosed = false → s.mayTake q = true →
        x.firstBlock * 16 + r.nextSector < 16384 →
        exec .segmentGrant s =
          .next (granted (.readSector (x.firstBlock * 16 + r.nextSector))
            (.read { r with nextSector := r.nextSector + 1 })
            ((s.port q).transfers ++
              [{ state := .inArray, data := [], sector := some r.nextSector, blankMark := false }]))) ∧
      (∀ n m c, e.cmd = .check i n m → a.progress = .check c → c.sectorsDone < m →
        x.firstBlock * 16 + c.nextSector < 16384 →
        exec .segmentGrant s =
          .next (granted (.readSector (x.firstBlock * 16 + c.nextSector))
            (.check { c with nextSector := c.nextSector + 1 }) (s.port q).transfers)) ∧
      (∀ n m w b rest, e.cmd = .write i n m → a.progress = .write w → w.sectorsDone < m →
        (s.port q).transfers = b :: rest → b.state = .full → x.firstBlock * 16 + w.nextSector < 16384 →
        exec .segmentGrant s =
          .next (granted (.programSector (x.firstBlock * 16 + w.nextSector) b.data) (.write w)
            ({ b with state := .inArray } :: rest))) ∧
      (∀ n m k, e.cmd = .blank i n m → a.progress = .blank k → k.blocksDone < m →
        x.firstBlock + k.nextBlock < 1024 →
        exec .segmentGrant s =
          .next (granted (.blankBlock (x.firstBlock + k.nextBlock)) (.blank { k with nextBlock := k.nextBlock + 1 })
            (s.port q).transfers)) ∧
      (∀ which key k, e.cmd = .wipe i which key → a.progress = .wipe k → k.blocksDone < x.blockCount →
        k.tableDue = false → x.firstBlock + k.nextBlock < 1024 →
        exec .segmentGrant s =
          .next (granted (.blankBlock (x.firstBlock + k.nextBlock)) (.wipe { k with nextBlock := k.nextBlock + 1 })
            (s.port q).transfers)) ∧
      (s.live.generation ≠ 0xFFFFFFFF →
        (∀ which key k, e.cmd = .wipe i which key → a.progress = .wipe k → x.blockCount ≤ k.blocksDone →
          k.tableDue = true →
          exec .segmentGrant s =
            .next (granted
              (.tableBlank
                { s.live with
                  generation := s.live.generation + 1,
                  records := s.live.records.set i (some { x with lock := none }) })
              (.wipe { k with tableDue := false }) (s.port q).transfers)) ∧
        (∀ key mode, e.cmd = .setKey i key mode → a.progress = .job true →
          exec .segmentGrant s =
            .next (granted
              (.tableBlank
                { s.live with
                  generation := s.live.generation + 1,
                  records := s.live.records.set i (some { x with lock := some { key := key, mode := mode } }) })
              (.job false) (s.port q).transfers)) ∧
        (∀ key, e.cmd = .clearKey i key → a.progress = .job true →
          exec .segmentGrant s =
            .next (granted
              (.tableBlank
                { s.live with
                  generation := s.live.generation + 1,
                  records := s.live.records.set i (some { x with lock := none }) })
              (.job false) (s.port q).transfers)))) ∧
    (s.live.generation ≠ 0xFFFFFFFF → a.progress = .job true →
      (∀ new old, e.cmd = .setRecovery new old →
        exec .segmentGrant s =
          .next (granted
            (.tableBlank
              { s.live with
                generation := s.live.generation + 1,
                recovery := if new = Vector.replicate 16 0 then none else some new })
            (.job false) (s.port q).transfers)) ∧
      (∀ h staged lease, e.cmd = .commit → s.tableState = .committing h staged lease →
        exec .segmentGrant s =
          .next (granted
            (.tableBlank { s.live with generation := s.live.generation + 1, records := staged.records })
            (.job false) (s.port q).transfers))) ∧
    (s.live.generation = 0xFFFFFFFF →
      ∀ refused : Completion → TableState → State,
        (∀ r ts, refused r ts =
          { (s.endedWith q r) with lastGranted := q, standbyTimer := none, tableState := ts }.settle) →
      (∀ h staged lease, e.cmd = .commit → a.progress = .job true → s.tableState = .committing h staged lease →
        exec .segmentGrant s =
          .next (refused { Completion.bare e.tag 6 .commitFault with generation := some s.live.generation }
            (.claimed h staged lease 0))) ∧
      (∀ i key mode, e.cmd = .setKey i key mode → a.progress = .job true →
        exec .segmentGrant s =
          .next (refused
            { Completion.bare e.tag 8 .commitFault with
              partition := some i, generation := some s.live.generation } .free)) ∧
      (∀ i key, e.cmd = .clearKey i key → a.progress = .job true →
        exec .segmentGrant s =
          .next (refused
            { Completion.bare e.tag 9 .commitFault with
              partition := some i, generation := some s.live.generation } .free)) ∧
      (∀ new old, e.cmd = .setRecovery new old → a.progress = .job true →
        exec .segmentGrant s =
          .next (refused { Completion.bare e.tag 10 .commitFault with generation := some s.live.generation } .free)) ∧
      (∀ i x which key k, e.cmd = .wipe i which key → s.live.records[i] = some x → a.progress = .wipe k →
        x.blockCount ≤ k.blocksDone → k.tableDue = true →
        exec .segmentGrant s =
          .next (refused
            { Completion.bare e.tag 5 .commitFault with
              partition := some i, sectorsDone := some (16 * k.blocksDone),
              generation := some s.live.generation } .free)))

/-! ### Ends of array operations -/

/-- The end of a sector read of a READ: "data" or "blank" makes its buffer READY and counts the sector (R110);
"unreadable" frees it, sets fail_at and closes reading, and completes the READ when no buffer is left (R111, R113). The
end of a CHECK's read counts the report, and the CHECK completes at the last sector (R119). An abort-pending READ or
CHECK ends ABORTED (R77, R115, R120); the read of a removed READ frees its buffer and changes nothing else, and the report
of a removed CHECK's read is dropped (R121). -/
def Obligations.SectorReadsAreReported : Prop :=
  ∀ (s : State) (p : Port) (i : Index) (start count n : Nat),
    (∀ e a r older b,
      s.inFlight = some (.segment { port := p, cmd := .read i start count, removed := false, work := .readSector n }) →
      (s.port p).activeEntry = some (e, a) → e.cmd = .read i start count → a.progress = .read r →
      a.abortPending = false → (s.port p).transfers = older ++ [b] → b.state = .inArray →
      (∀ c ∈ older, c.state ≠ .inArray) →
      ∀ ended : ReadProgress → List Buffer → State,
        (∀ r1 bufs, ended r1 bufs =
          { s with inFlight := none }.setPort p
            { s.port p with
              queue := { e with active := some { a with progress := .read r1 } } :: (s.port p).queue.tail,
              transfers := bufs }) →
      (∀ data check, Memory.get s.array n = some (.written (.bytes data) check) →
        exec .readSectorReadEnd s =
          .next (ended
            { r with sectorsRead := r.sectorsRead + 1,
                     readingClosed := r.readingClosed || decide (r.sectorsRead + 1 = count) }
            (older ++ [{ b with state := .ready, data := data, blankMark := false }])).settle) ∧
      (Memory.get s.array n = none →
        exec .readSectorReadEnd s =
          .next (ended
            { r with sectorsRead := r.sectorsRead + 1,
                     readingClosed := r.readingClosed || decide (r.sectorsRead + 1 = count) }
            (older ++ [{ b with state := .ready, data := List.replicate 512 0xFF, blankMark := true }])).settle) ∧
      (Memory.get s.array n = some .damaged →
        ∀ r1, r1 = { r with failAt := some (r.nextSector - 1), readingClosed := true } →
        (older ≠ [] → exec .readSectorReadEnd s = .next (ended r1 older).settle) ∧
        (older = [] →
          exec .readSectorReadEnd s =
            .next ((ended r1 []).endedWith p
              { Completion.bare e.tag 1 .unreadable with
                partition := some i, sectorsDone := some r.sectorsDone, blankMet := some r.blankMet,
                failAt := some (r.nextSector - 1), genStart := some r.genStart,
                genEnd := some s.counts[i] }).settle))) ∧
    (∀ e a r,
      s.inFlight = some (.segment { port := p, cmd := .read i start count, removed := false, work := .readSector n }) →
      (s.port p).activeEntry = some (e, a) → e.cmd = .read i start count → a.progress = .read r →
      a.abortPending = true →
      exec .readSectorReadEnd s =
        .next ({ s with inFlight := none }.endedWith p
          { Completion.bare e.tag 1 .aborted with
            partition := some i, sectorsDone := some r.sectorsDone, blankMet := some r.blankMet,
            failAt := if Memory.get s.array n = some Sector.damaged then some (r.nextSector - 1) else r.failAt,
            genStart := some r.genStart, genEnd := some s.counts[i] }).settle) ∧
    (s.inFlight = some (.segment { port := p, cmd := .read i start count, removed := true, work := .readSector n }) →
      exec .readSectorReadEnd s =
        .next ({ s with inFlight := none }.setPort p
          { s.port p with
            transfers := (s.port p).transfers.filter fun b => decide (b.state ≠ BufferState.inArray) }).settle) ∧
    (s.inFlight = some (.segment { port := p, cmd := .check i start count, removed := true, work := .readSector n }) →
      exec .checkSectorReadEnd s = .next { s with inFlight := none }.settle) ∧
    (∀ e a c c1,
      s.inFlight = some (.segment { port := p, cmd := .check i start count, removed := false, work := .readSector n }) →
      (s.port p).activeEntry = some (e, a) → e.cmd = .check i start count → a.progress = .check c →
      c1 = (match Memory.get s.array n with
        | some (.written _ _) => { c with sectorsDone := c.sectorsDone + 1 }
        | none => { c with sectorsDone := c.sectorsDone + 1, blankMet := c.blankMet + 1 }
        | some .damaged =>
          { c with sectorsDone := c.sectorsDone + 1, damagedMet := c.damagedMet + 1,
                   firstDamaged := match c.firstDamaged with
                     | some k => some k
                     | none => some (c.nextSector - 1) }) →
      ∀ s1, s1 = { s with inFlight := none }.setPort p
          { s.port p with
            queue := { e with active := some { a with progress := .check c1 } } :: (s.port p).queue.tail } →
      ∀ st, (a.abortPending = true ∧ st = some Status.aborted) ∨
          (a.abortPending = false ∧ c1.sectorsDone = count ∧ st = some .ok) ∨
          (a.abortPending = false ∧ c1.sectorsDone ≠ count ∧ st = none) →
        exec .checkSectorReadEnd s =
          .next (match st with
            | none => s1.settle
            | some status =>
              (s1.endedWith p
                { Completion.bare e.tag 2 status with
                  partition := some i, sectorsDone := some c1.sectorsDone, blankMet := some c1.blankMet,
                  damagedMet := some c1.damagedMet, firstDamaged := c1.firstDamaged }).settle))

/-- The end of a WRITE's program (R124 to R127, R132): "written" counts the sector, frees its buffer and completes the
WRITE at the last one; "not blank" and "program failure" end it with fail_at; an abort-pending WRITE ends ABORTED. The
array keeps every other sector; the change count rises by one but for "not blank", and the other ports that watch the
partition note it (R169). Whether a program of a BLANK sector succeeds is the command's operand (R5, log 1). A WRITTEN
sector holds the content given and a new check value (R2, R5), which is a free value (log 34). -/
def Obligations.WriteProgramsAreReported : Prop :=
  (∀ (m : Memory) (n k : Nat) (c : Content) (ok : Bool),
    Memory.get (programSector m n c ok) k =
      if k = n ∧ Memory.get m n = none then some (if ok then .written c (Config.sectorCheck n c) else .damaged) else Memory.get m k) ∧
  (∀ (s : State) (i j : Index) (p q : Port),
    (s.riseCount i p).counts[j] = (if j = i then s.counts[i] + 1 else s.counts[j]) ∧
    (s.riseCount i p).port q =
      (if q ≠ p ∧ (s.port q).watch.getLsbD i.val = true then
        { s.port q with notice := (s.port q).notice ||| 1#8 <<< i.val }
      else s.port q)) ∧
  ∀ (s : State) (p : Port) (i : Index) (start count n : Nat) (data : List Byte) (ok : Bool),
    (∀ e a w b rest,
      s.inFlight =
        some (.segment { port := p, cmd := .write i start count, removed := false, work := .programSector n data }) →
      (s.port p).activeEntry = some (e, a) → e.cmd = .write i start count → a.progress = .write w →
      (s.port p).transfers = b :: rest →
      ∀ after : WriteProgress → List Buffer → State,
        (∀ w1 bufs, after w1 bufs =
          { s with inFlight := none, array := programSector s.array n (.bytes data) ok }.setPort p
            { s.port p with
              queue := { e with active := some { a with progress := .write w1 } } :: (s.port p).queue.tail,
              transfers := bufs }) →
      ∀ record : Status → WriteProgress → Completion,
        (∀ st w1, record st w1 =
          { Completion.bare e.tag 3 st with
            partition := some i, sectorsDone := some w1.sectorsDone, failAt := w1.failAt }) →
      (Memory.get s.array n = none → ok = true →
        ∀ w1, w1 = { w with sectorsDone := w.sectorsDone + 1, nextSector := w.nextSector + 1 } →
        (a.abortPending = true →
          exec (.writeProgramEnd ok) s =
            .next (((after w1 rest).riseCount i p).endedWith p (record .aborted w1)).settle) ∧
        (a.abortPending = false → w.sectorsDone + 1 = count →
          exec (.writeProgramEnd ok) s = .next (((after w1 rest).riseCount i p).endedWith p (record .ok w1)).settle) ∧
        (a.abortPending = false → w.sectorsDone + 1 ≠ count →
          exec (.writeProgramEnd ok) s = .next ((after w1 rest).riseCount i p).settle)) ∧
      (∀ w1, w1 = { w with failAt := some w.nextSector } →
        (Memory.get s.array n = none → ok = false →
          exec (.writeProgramEnd ok) s =
            .next (((after w1 (b :: rest)).riseCount i p).endedWith p
              (record (if a.abortPending then .aborted else .programFault) w1)).settle) ∧
        (Memory.get s.array n ≠ none →
          exec (.writeProgramEnd ok) s =
            .next ((after w1 (b :: rest)).endedWith p
              (record (if a.abortPending then .aborted else .notBlank) w1)).settle))) ∧
    (s.inFlight =
        some (.segment { port := p, cmd := .write i start count, removed := true, work := .programSector n data }) →
      ∀ s1, s1 = { s with inFlight := none, array := programSector s.array n (.bytes data) ok }.setPort p
          { s.port p with transfers := (s.port p).transfers.filter fun b => decide (b.state ≠ BufferState.inArray) } →
        (Memory.get s.array n = none → exec (.writeProgramEnd ok) s = .next (s1.riseCount i p).settle) ∧
        (Memory.get s.array n ≠ none → exec (.writeProgramEnd ok) s = .next s1.settle))

/-- The end of a block blank of BLANK or WIPE (R130, R134): the 16 sectors of the block are BLANK and every other sector
is as before, the block counts and the change count rises; a BLANK completes at its last block, and a WIPE's table
segment is then due. An abort-pending one ends ABORTED, a WIPE leaving the table state FREE (R131, R136). -/
def Obligations.BlockBlanksAreCounted : Prop :=
  (∀ (m : Memory) (b k : Nat),
    Memory.get (blankBlock m b) k = if 16 * b ≤ k ∧ k < 16 * b + 16 then none else Memory.get m k) ∧
  ∀ (s : State) (p : Port) (i : Index) (b : Nat),
    ∀ after : Entry → Active → Progress → State,
      (∀ e a pr, after e a pr =
        ({ s with inFlight := none, array := blankBlock s.array b }.setPort p
          { s.port p with
            queue := { e with active := some { a with progress := pr } } :: (s.port p).queue.tail }).riseCount i p) →
    (∀ e a k start count k1,
      s.inFlight =
        some (.segment { port := p, cmd := .blank i start count, removed := false, work := .blankBlock b }) →
      (s.port p).activeEntry = some (e, a) → e.cmd = .blank i start count → a.progress = .blank k →
      k1 = { k with blocksDone := k.blocksDone + 1 } →
      (a.abortPending = false → k.blocksDone + 1 ≠ count →
        exec .blankBlockEnd s = .next (after e a (.blank k1)).settle) ∧
      (∀ st, (a.abortPending = true ∧ st = Status.aborted) ∨
          (a.abortPending = false ∧ k.blocksDone + 1 = count ∧ st = .ok) →
        exec .blankBlockEnd s =
          .next ((after e a (.blank k1)).endedWith p
            { Completion.bare e.tag 4 st with
              partition := some i, sectorsDone := some (16 * (k.blocksDone + 1)) }).settle)) ∧
    (∀ e a k which key x k1,
      s.inFlight = some (.segment { port := p, cmd := .wipe i which key, removed := false, work := .blankBlock b }) →
      (s.port p).activeEntry = some (e, a) → e.cmd = .wipe i which key → a.progress = .wipe k →
      s.live.records[i] = some x →
      k1 = { k with blocksDone := k.blocksDone + 1, tableDue := decide (k.blocksDone + 1 = x.blockCount) } →
      (a.abortPending = false → exec .wipeBlockEnd s = .next (after e a (.wipe k1)).settle) ∧
      (a.abortPending = true →
        exec .wipeBlockEnd s =
          .next { ((after e a (.wipe k1)).endedWith p
              { Completion.bare e.tag 5 .aborted with
                partition := some i, sectorsDone := some (16 * (k.blocksDone + 1)) }) with
            tableState := .free }.settle)) ∧
    (∀ start count,
      s.inFlight =
        some (.segment { port := p, cmd := .blank i start count, removed := true, work := .blankBlock b }) →
      exec .blankBlockEnd s =
        .next ({ s with inFlight := none, array := blankBlock s.array b }.riseCount i p).settle) ∧
    (∀ which key,
      s.inFlight = some (.segment { port := p, cmd := .wipe i which key, removed := true, work := .blankBlock b }) →
      exec .wipeBlockEnd s =
        .next { ({ s with inFlight := none, array := blankBlock s.array b }.riseCount i p) with
          tableState := .free }.settle)

/-- The operations of a table segment on the slot that is not current (R24, R26): after the block blank the header
sector is programmed, after that the records sector. A program failure ends it in a table fault: the sector is DAMAGED,
the live table and the current slot stay, and the owner ends COMMIT_FAULT, a COMMIT back in CLAIMED and a job in FREE
(R28, R54); with its owner removed by a port reset the state is FREE and nothing is posted (R57, R58). The mark and the
check values are free values (log 9, log 34). -/
def Obligations.TableSegmentsWriteTheOtherSlot : Prop :=
  ∀ (s : State) (g : Segment) (new : Table) (slot : Nat), slot < 2 → slot ≠ s.currentSlot.val →
    s.inFlight = some (.segment g) →
    (g.work = .tableBlank new →
      exec .tableBlockBlankEnd s =
        .next { s with
          array := blankBlock s.array slot, inFlight := some (.segment { g with work := .tableHeader new }) }) ∧
    (g.work = .tableHeader new → Memory.get s.array (16 * slot) = none →
      ∀ header, header = Content.header
          { mark := Config.headerMark, generation := new.generation, recovery := new.recovery,
            check := Config.headerCheck Config.headerMark new.generation new.recovery } →
      exec (.tableHeaderProgramEnd true) s =
        .next { s with
          array := Memory.put s.array (16 * slot) (.written header (Config.sectorCheck (16 * slot) header)),
          inFlight := some (.segment { g with work := .tableRecords new }) }) ∧
    ∀ c n, (c = Instr.tableHeaderProgramEnd false ∧ g.work = .tableHeader new ∧ n = 16 * slot) ∨
        (c = .tableRecordsProgramEnd false ∧ g.work = .tableRecords new ∧ n = 16 * slot + 1) →
      Memory.get s.array n = none →
      ∀ s1, s1 = { s with inFlight := none, array := Memory.put s.array n .damaged } →
      (g.removed = true → exec c s = .next { s1 with tableState := .free }.settle) ∧
      (∀ e a, g.removed = false → (s.port g.port).activeEntry = some (e, a) → e.cmd = g.cmd →
        (∀ h staged lease due, g.cmd = .commit → a.progress = .job due →
          s.tableState = .committing h staged lease →
          exec c s =
            .next { (s1.endedWith g.port
                { Completion.bare e.tag 6 .commitFault with generation := some s.live.generation }) with
              tableState := .claimed h staged lease 0 }.settle) ∧
        (∀ i key mode due, g.cmd = .setKey i key mode → a.progress = .job due →
          exec c s =
            .next { (s1.endedWith g.port
                { Completion.bare e.tag 8 .commitFault with
                  partition := some i, generation := some s.live.generation }) with tableState := .free }.settle) ∧
        (∀ i key due, g.cmd = .clearKey i key → a.progress = .job due →
          exec c s =
            .next { (s1.endedWith g.port
                { Completion.bare e.tag 9 .commitFault with
                  partition := some i, generation := some s.live.generation }) with tableState := .free }.settle) ∧
        (∀ k old due, g.cmd = .setRecovery k old → a.progress = .job due →
          exec c s =
            .next { (s1.endedWith g.port
                { Completion.bare e.tag 10 .commitFault with generation := some s.live.generation }) with
              tableState := .free }.settle) ∧
        (∀ i which key k, g.cmd = .wipe i which key → a.progress = .wipe k →
          exec c s =
            .next { (s1.endedWith g.port
                { Completion.bare e.tag 5 .commitFault with
                  partition := some i, sectorsDone := some (16 * k.blocksDone),
                  generation := some s.live.generation }) with tableState := .free }.settle))

/-- When the records sector has been written the new table is live (R30): the written slot is current, the table state
FREE, TABLE is set at the ports other than the issuing one (R34), the ACTIVE commands on a partition whose record differs
end PARTITION_CHANGED with their buffers freed (R31), the open sets (R32) and the change counts (R33) are brought into
line, and the owner ends OK with the new generation unless it was removed by a port reset (R29, R54). The records carry the
fields of R115, R120, R127, R131, R135, R137, R162 and section 8.10. That a removed SET KEY which repeats the present key
and key_mode keeps the other members of the open set is the model's choice (log 33); the check values are free values (log
9, log 34). -/
def Obligations.SwitchoverMakesTheTableLive : Prop :=
  ∀ (s : State) (g : Segment) (new : Table) (slot : Nat), slot < 2 → slot ≠ s.currentSlot.val →
    s.inFlight = some (.segment g) → g.work = .tableRecords new → Memory.get s.array (16 * slot + 1) = none →
    ∃ t, exec (.tableRecordsProgramEnd true) s = .next t ∧
      t.live = new ∧ t.currentSlot.val = slot ∧ t.tableState = .free ∧ t.inFlight = none ∧ t.part = s.part ∧
      t.held = s.held ∧ t.frame = s.frame ∧ t.lastGranted = s.lastGranted ∧
      (∀ records, records = Content.records
          { generation := new.generation, records := new.records,
            check := Config.recordsCheck new.generation new.records } →
        t.array = Memory.put s.array (16 * slot + 1)
          (.written records (Config.sectorCheck (16 * slot + 1) records))) ∧
      (∀ i : Index, t.counts[i] =
        if s.live.records[i] ≠ none ∧ new.records[i] ≠ none then s.counts[i] else 0) ∧
      (∀ i : Index, ∀ q : Port,
        (t.openSets[i]).get q = true ↔
          ∃ x l, new.records[i] = some x ∧ x.lock = some l ∧ (x.writer = some q ∨ x.readers.get q = true) ∧
            (((∃ y, s.live.records[i] = some y ∧ y.lock = some l) ∧ (s.openSets[i]).get q = true) ∨
              ((∀ y, s.live.records[i] = some y → y.lock ≠ some l) ∧ q = g.port ∧ g.removed = false ∧
                ∃ key mode, g.cmd = .setKey i key mode))) ∧
      (∀ q, (t.port q).latched.table = (decide (q ≠ g.port) || (s.port q).latched.table)) ∧
      (∀ q, q ≠ g.port ∨ g.removed = true →
        (∀ e a i, (s.port q).activeEntry = some (e, a) → e.cmd.actsOn = some i →
          s.live.records[i] ≠ new.records[i] →
          (t.port q).queue = (s.port q).queue.tail ∧ (t.port q).transfers = [] ∧
          (t.port q).completions = (s.port q).completions ++ [s.endRecord e a.progress .partitionChanged]) ∧
        ((∀ e a i, (s.port q).activeEntry = some (e, a) → e.cmd.actsOn = some i →
            s.live.records[i] = new.records[i]) →
          (t.port q).queue = (s.port q).queue ∧ (t.port q).transfers = (s.port q).transfers ∧
          (t.port q).completions = (s.port q).completions)) ∧
      (∀ e a, g.removed = false → (s.port g.port).activeEntry = some (e, a) → e.cmd.holdsTable = true →
        e.cmd.keeps a.progress = true →
        (t.port g.port).queue = (s.port g.port).queue.tail ∧ (t.port g.port).transfers = [] ∧
        ∃ r, (t.port g.port).completions = (s.port g.port).completions ++ [r] ∧ r.tag = e.tag ∧
          r.code = e.cmd.code ∧ r.status = .ok ∧ r.partition = e.cmd.part ∧ r.generation = some new.generation ∧
          (r.code = match e.cmd with
            | .commit => 6
            | .setKey _ _ _ => 8
            | .clearKey _ _ => 9
            | .setRecovery _ _ => 10
            | _ => 5) ∧
          (r.sectorsDone = match a.progress with
            | .wipe k => some (16 * k.blocksDone)
            | _ => none) ∧
          r.failAt = none ∧ r.blankMet = none ∧ r.damagedMet = none ∧ r.firstDamaged = none ∧ r.genStart = none ∧
          r.genEnd = none) ∧
      ∀ (e : Entry) (i : Index) (n m : Nat),
        (∀ r, e.cmd = .read i n m →
          s.endRecord e (.read r) .partitionChanged =
            { Completion.bare e.tag 1 .partitionChanged with
              partition := some i, sectorsDone := some r.sectorsDone, blankMet := some r.blankMet,
              failAt := r.failAt, genStart := some r.genStart, genEnd := some s.counts[i] }) ∧
        (∀ c, e.cmd = .check i n m →
          s.endRecord e (.check c) .partitionChanged =
            { Completion.bare e.tag 2 .partitionChanged with
              partition := some i, sectorsDone := some c.sectorsDone, blankMet := some c.blankMet,
              damagedMet := some c.damagedMet, firstDamaged := c.firstDamaged }) ∧
        (∀ w, e.cmd = .write i n m →
          s.endRecord e (.write w) .partitionChanged =
            { Completion.bare e.tag 3 .partitionChanged with
              partition := some i, sectorsDone := some w.sectorsDone, failAt := w.failAt }) ∧
        (∀ b, e.cmd = .blank i n m →
          s.endRecord e (.blank b) .partitionChanged =
            { Completion.bare e.tag 4 .partitionChanged with
              partition := some i, sectorsDone := some (16 * b.blocksDone) })

/-- The start-up load reads sectors 0 and 1 of block 0 and then of block 1 (R35); at the fourth end the live table and
the current slot are those of R36, the part is READY and READY is set at every port (R37). A slot gives a table exactly
when it is valid as R23 says. -/
def Obligations.LoadBuildsTheLiveTable : Prop :=
  (∀ (first second : ReadReport) (t : Table),
    slotTable first second = some t ↔
      ∃ h r, first = .data (.header h) ∧ second = .data (.records r) ∧ h.mark = Config.headerMark ∧
        h.check = Config.headerCheck h.mark h.generation h.recovery ∧
        r.check = Config.recordsCheck r.generation r.records ∧ h.generation = r.generation ∧ t.valid = true ∧
        t = { generation := h.generation, recovery := h.recovery, records := r.records }) ∧
  ∀ (s : State),
    (s.inFlight = some (.load []) →
      exec .loadReadEnd s = .next { s with inFlight := some (.load [readSector s.array 0]) }) ∧
    (∀ r0, s.inFlight = some (.load [r0]) →
      exec .loadReadEnd s = .next { s with inFlight := some (.load [r0, readSector s.array 1]) }) ∧
    (∀ r0 r1, s.inFlight = some (.load [r0, r1]) →
      exec .loadReadEnd s = .next { s with inFlight := some (.load [r0, r1, readSector s.array 16]) }) ∧
    (∀ r0 r1 r2 live (slot : Fin 2), s.inFlight = some (.load [r0, r1, r2]) →
      (match slotTable r0 r1, slotTable r2 (readSector s.array 17) with
       | some x, some y =>
         (x.generation.toNat < y.generation.toNat ∧ live = y ∧ slot = 1) ∨
           (y.generation.toNat ≤ x.generation.toNat ∧ live = x ∧ slot = 0)
       | some x, none => live = x ∧ slot = 0
       | none, some y => live = y ∧ slot = 1
       | none, none =>
         live = { generation := 0, recovery := none, records := Vector.replicate 8 none } ∧ slot = 1) →
      exec .loadReadEnd s =
        .next { s with
          inFlight := none, part := .ready, live := live, currentSlot := slot,
          ports := s.ports.mapPorts fun _ u => { u with latched := { u.latched with ready := true } } }.settle)

/-! ### Timers -/

/-- When the standby timer has run for E its expiry puts the array in STANDBY, and the end of a wake makes it READY (R12,
R15); when the lease timer has counted the lease its expiry drops the claim and sets CLAIM_LOST at its holder (R43, R44);
when a stall timer has counted its setting its expiry ends the port's READ or WRITE STALLED (R82). An expiry that is not
due does nothing, so one whose timer has restarted meanwhile does not take place (R44, R99; the model's choices, log 3 and
log 5: how time passes, and what the row of an expiry that is not due does). What follows at once from any change
(`settle`): an array in STANDBY wakes when a grant is wanted (R15); the standby timer runs exactly while the array is idle,
from zero when it starts (R11; between an eligible command and its grant, log 22); a stall timer runs exactly while its
setting is not 0 and the ACTIVE command waits on its own data side, from zero when it starts (R80). -/
def Obligations.TimersExpire : Prop :=
  (∀ (s : State) (wanted idle : Prop),
    (wanted ↔ s.inFlight = none ∧ s.part = .ready ∧ ∃ q, s.eligible q = true) →
    (idle ↔ s.power = .ready ∧ s.inFlight = none ∧ s.part = .ready ∧ s.interval ≠ 0) →
    ∃ power timer ports, s.settle = { s with power := power, standbyTimer := timer, ports := ports } ∧
      (s.power = .standby → wanted → power = .waking) ∧ (s.power ≠ .standby ∨ ¬ wanted → power = s.power) ∧
      (¬ idle → timer = none) ∧ (∀ n, idle → s.standbyTimer = some n → timer = some n) ∧
      (idle → s.standbyTimer = none → wanted → timer = none) ∧
      (idle → s.standbyTimer = none → ¬ wanted → timer = some 0) ∧
      ∀ p, ports.get p =
        { s.port p with
          stallTimer :=
            if (s.port p).stallSetting ≠ 0 ∧ s.waitsOnData p = true then some ((s.port p).stallTimer.getD 0)
            else none }) ∧
  (∀ (s : State) (p : Port), s.waitsOnData p = true ↔
    ∃ e a, (s.port p).activeEntry = some (e, a) ∧ s.ownSegment p = false ∧
      ((∃ i n m w, e.cmd = .write i n m ∧ a.progress = .write w ∧ w.sectorsDone < m ∧
          ((∃ b rest, (s.port p).transfers = b :: rest ∧ b.state = .filling) ∨
            ((s.port p).transfers = [] ∧ s.mayTake p = true))) ∨
        (∃ i n m r, e.cmd = .read i n m ∧ a.progress = .read r ∧
          (∃ b ∈ (s.port p).transfers, b.state = .ready ∨ b.state = .draining) ∧
          (r.readingClosed = true ∨ s.mayTake p = false)))) ∧
  ∀ (s : State) (p : Port),
    (∀ n, s.standbyTimer = some n → s.interval * 10 ≤ n →
      exec .standbyTimerExpiry s = .next { s with power := .standby, standbyTimer := none }.settle) ∧
    (s.standbyTimer = none ∨ (∃ n, s.standbyTimer = some n ∧ n < s.interval * 10) →
      exec .standbyTimerExpiry s = .next s) ∧
    (s.power = .waking → exec .wakeEnd s = .next { s with power := .ready }.settle) ∧
    (s.power ≠ .waking → exec .wakeEnd s = .next s) ∧
    (∀ h staged lease n, s.tableState = .claimed h staged lease n →
      (lease * 10 ≤ n →
        exec .leaseExpiry s =
          .next ({ s with tableState := .free }.setPort h
            { s.port h with latched := { (s.port h).latched with claimLost := true } })) ∧
      (n < lease * 10 → exec .leaseExpiry s = .next s)) ∧
    ((∀ h staged lease n, s.tableState ≠ .claimed h staged lease n) → exec .leaseExpiry s = .next s) ∧
    ((s.port p).stallTimer = none ∨ (∃ n, (s.port p).stallTimer = some n ∧ n < (s.port p).stallSetting) →
      exec (.stallExpiry p) s = .next s) ∧
    (∀ n e a, (s.port p).stallTimer = some n → (s.port p).stallSetting ≤ n → s.waitsOnData p = true →
      (s.port p).activeEntry = some (e, a) →
      (∀ i start count r, e.cmd = .read i start count → a.progress = .read r →
        exec (.stallExpiry p) s =
          .next (s.endedWith p
            { Completion.bare e.tag 1 .stalled with
              partition := some i, sectorsDone := some r.sectorsDone, blankMet := some r.blankMet, failAt := r.failAt,
              genStart := some r.genStart, genEnd := some s.counts[i] }).settle) ∧
      (∀ i start count w, e.cmd = .write i start count → a.progress = .write w →
        exec (.stallExpiry p) s =
          .next (s.endedWith p
            { Completion.bare e.tag 3 .stalled with
              partition := some i, sectorsDone := some w.sectorsDone, failAt := w.failAt }).settle))

/-! ### Resets, the supply and port C's line -/

/-- A port reset (R182): the port's queues, words, sets, events and timers are at their reset values, its buffers freed
but for one IN_ARRAY for a segment still in flight (R104), L 6, U 512, G 2 or the most the pool law allows (R105), the
port out of every open set with budget 4 (R158), its claim or job dropped at once or at the end of its segment (R56 to
R58); the array, the live table, the change counts, the hold and the other ports' queues stay. The port's vote is 0, so
E is never and the standby timer stops (R16); the array power state stays, but for the wake of an array in STANDBY when the
freed buffers make a command eligible (R9, R15, R16, R90). The release moves the line alone. The model's choices: the data
output is 0 (log 13), and an assertion while PRST is asserted is a second reset (log 25). -/
def Obligations.PortResetClearsThePort : Prop :=
  (∀ (s : State) (p : Port),
    (s.segmentOf p = true ↔ ∃ x, s.inFlight = some (.segment x) ∧ x.port = p) ∧
    (s.jobInFlight p = true ↔ ∃ x, s.inFlight = some (.segment x) ∧ x.port = p ∧
      (x.cmd = .commit ∨ (∃ i which key, x.cmd = .wipe i which key) ∨ (∃ i key mode, x.cmd = .setKey i key mode) ∨
        (∃ i key, x.cmd = .clearKey i key) ∨ ∃ new old, x.cmd = .setRecovery new old))) ∧
  ∀ (s : State) (p : Port),
    exec (.portResetRelease p) s = .next (s.setPort p { s.port p with prst := false }) ∧
    (s.powered = true → s.resetLine = false →
      ∃ t kept g, exec (.portReset p) s = .next t ∧
        kept = (if s.segmentOf p then (s.port p).transfers.filter fun b => decide (b.state = .inArray) else []) ∧
        t.port p = { PortUnit.reset with prst := true, transfers := kept, guarantee := g } ∧
        (g = 2 ∧ (2 - kept.length) + s.othersUnmet p ≤ t.freeCount ∨
          t.freeCount < (2 - kept.length) + s.othersUnmet p ∧ g = t.freeCount - s.othersUnmet p + kept.length) ∧
        (∀ q, q ≠ p → ∃ n, t.port q = { s.port q with stallTimer := n }) ∧
        (∀ i : Index, t.openSets[i] = (s.openSets[i]).set p false) ∧
        t.array = s.array ∧ t.live = s.live ∧ t.counts = s.counts ∧ t.held = s.held ∧ t.part = s.part ∧
        t.lastGranted = s.lastGranted ∧ t.currentSlot = s.currentSlot ∧ t.pending = s.pending ∧
        t.powered = s.powered ∧ t.resetLine = s.resetLine ∧ t.selected = s.selected ∧
        t.interval = 0 ∧ t.standbyTimer = none ∧
        (s.power = .standby → s.inFlight = none → s.part = .ready → (∃ q, t.eligible q = true) → t.power = .waking) ∧
        (s.power ≠ .standby ∨ s.inFlight ≠ none ∨ s.part ≠ .ready ∨ (∀ q, t.eligible q = false) →
          t.power = s.power) ∧
        (t.frame = if p = .c then none else s.frame) ∧
        (s.inFlight = none → t.inFlight = none) ∧
        (∀ got, s.inFlight = some (.load got) → t.inFlight = some (.load got)) ∧
        (∀ x, s.inFlight = some (.segment x) →
          t.inFlight = some (.segment (if x.port = p then { x with removed := true } else x))) ∧
        (match s.tableState with
         | .free => t.tableState = .free
         | .claimed h _ _ _ => t.tableState = if h = p then .free else s.tableState
         | .committing h _ _ => t.tableState = if h = p ∧ s.jobInFlight p = false then .free else s.tableState
         | .updating j => t.tableState = if j = p ∧ s.jobInFlight p = false then .free else s.tableState))

/-- A part reset and a loss of power cut the operation in flight (R8) and clear everything but the array (R1, R183). With
no operation or a read of the load in flight the array is kept; a cut read changes nothing, a program that had begun leaves
its sector DAMAGED, a cut blank leaves its 16 sectors DAMAGED, and a cut table segment does so in the slot that is not
current (R26, R59, R139). The load begins when RESET is released, or at power-on (R35, R183). The model's choices: whether
a program had begun is an operand (log 2), the live table while LOADING is held as the empty table (log 7), the current
slot before the load's end is 1 (log 8), the data output is 0 (log 13), POWER_LOSS clears the volatile state (log 15),
POWER_ON while powered acts as a reset (log 16), PART_RESET without power moves the line alone (log 17), the lines, chip
select among them, keep their levels (log 18), a release of a line that is not asserted and a loss of power without
power change nothing (log 30). -/
def Obligations.PartResetAndPowerClearTheRest : Prop :=
  (∀ (s : State) (begun : Bool) (k : Nat),
    (s.inFlight = none → s.cutArray begun = s.array) ∧
    (∀ got, s.inFlight = some (.load got) → s.cutArray begun = s.array) ∧
    ∀ (g : Segment), s.inFlight = some (.segment g) →
      (∀ n, g.work = .readSector n → s.cutArray begun = s.array) ∧
      (∀ n d, g.work = .programSector n d →
        Memory.get (s.cutArray begun) k =
          if begun = true ∧ k = n ∧ Memory.get s.array n = none then some .damaged else Memory.get s.array k) ∧
      (∀ b, g.work = .blankBlock b →
        Memory.get (s.cutArray begun) k =
          if 16 * b ≤ k ∧ k < 16 * b + 16 then some .damaged else Memory.get s.array k) ∧
      ∀ (slot : Nat) (new : Table), slot < 2 → slot ≠ s.currentSlot.val →
        (g.work = .tableBlank new →
          Memory.get (s.cutArray begun) k =
            if 16 * slot ≤ k ∧ k < 16 * slot + 16 then some .damaged else Memory.get s.array k) ∧
        (∀ n, (g.work = .tableHeader new ∧ n = 16 * slot) ∨ (g.work = .tableRecords new ∧ n = 16 * slot + 1) →
          Memory.get (s.cutArray begun) k =
            if begun = true ∧ k = n ∧ Memory.get s.array n = none then some .damaged else Memory.get s.array k)) ∧
  ∀ (s : State) (begun : Bool),
    ∀ cleared : Bool → Bool → Option InFlight → State,
      (∀ powered line load, cleared powered line load =
        { State.reset with
          pending := s.pending, powered := powered, resetLine := line, selected := s.selected, inFlight := load,
          array := s.cutArray begun,
          ports := s.ports.mapPorts fun _ u => { PortUnit.reset with prst := u.prst } }) →
    (s.powered = true → exec (.partReset begun) s = .next (cleared true true none)) ∧
    (s.powered = false → exec (.partReset begun) s = .next { s with resetLine := true }) ∧
    (s.resetLine = true → s.powered = true →
      exec .partResetRelease s = .next { s with resetLine := false, inFlight := some (.load []) }) ∧
    (s.resetLine = true → s.powered = false → exec .partResetRelease s = .next { s with resetLine := false }) ∧
    (s.resetLine = false → exec .partResetRelease s = .next s) ∧
    exec (.powerOn begun) s = .next (cleared true s.resetLine (if s.resetLine then none else some (.load []))) ∧
    (s.powered = true → exec (.powerLoss begun) s = .next (cleared false s.resetLine none)) ∧
    (s.powered = false → exec (.powerLoss begun) s = .next s)

/-- Port C's frames (R174): the frame byte, the first byte since chip select was asserted, opens one, with bits 5 and 6
making it void; in a write frame the second byte of a word writes it, as REGISTER_WRITE does; in a read frame the first
byte reads the location; the end of the frame drops a half-received word. A read of DATA takes its word with the first
byte, as DATA_READ does, even when the frame ends there. After a word the location rises by one, and stays at 21 and at 31. A frame that a
reset has ended is not taken up again before chip select has been negated. An access is made while the port takes accesses,
at port C in a frame that stands at the location (log 11). That chip select counts as asserted from the first byte to
FRAME_END, that a part without supply takes no access, and the data output word, also during the frame byte and in a write
frame, are the model's choices (log 12, log 15, log 13, log 36). -/
def Obligations.FramesMoveWords : Prop :=
  (∀ (s : State) (p : Port) (reading : Bool) (loc : Nat),
    (s.takesAccess p = true ↔ s.powered = true ∧ s.resetLine = false ∧ (s.port p).prst = false) ∧
    (s.accessMade p reading loc = true ↔
      s.takesAccess p = true ∧
        (p = .c → ∃ f, s.frame = some f ∧ f.void = false ∧ f.reading = reading ∧ f.loc = loc ∧ f.half = none)) ∧
    (p ≠ .c → s.passWord p = s) ∧ (s.frame = none → s.passWord p = s) ∧
    (∀ f, s.frame = some f →
      s.passWord .c =
        { s with
          frame := some { f with loc := if f.loc = 21 ∨ f.loc = 31 then f.loc else f.loc + 1, half := none } })) ∧
  ∀ (s : State) (b : Byte),
    exec .frameEnd s = .next { s with frame := none, selected := false } ∧
    (∀ (p : Port) (loc : Fin 32) (w : Word), s.accessMade p false loc.val = true →
      exec (.registerWrite p loc w) s = .next ((s.windowWrite p loc.val w).passWord p)) ∧
    (∀ p, s.accessMade p true 21 = true → exec (.dataRead p) s = .next ((s.dataRead p).passWord p)) ∧
    (s.takesAccess .c = false → exec (.frameByte b) s = .next { s with selected := true }) ∧
    (s.takesAccess .c = true →
      (s.frame = none → s.selected = true → exec (.frameByte b) s = .next s) ∧
      (s.frame = none → s.selected = false →
        exec (.frameByte b) s =
          .next { s with
            frame := some { void := b.getLsbD 5 || b.getLsbD 6, reading := b.getLsbD 7, loc := b.toNat % 32,
                            half := none },
            selected := true }) ∧
      (∀ f, s.frame = some f → f.void = true →
        exec (.frameByte b) s = .next (s.setPort .c { s.port .c with dataOut := 0 })) ∧
      (∀ f, s.frame = some f → f.void = false → f.reading = false →
        (f.half = none → exec (.frameByte b) s = .next { s with frame := some { f with half := some b } }) ∧
        (∀ high, f.half = some high →
          exec (.frameByte b) s =
            .next (({ s with frame := some { f with half := none } }.windowWrite .c f.loc (high ++ b)).passWord .c))) ∧
      (∀ f, s.frame = some f → f.void = false → f.reading = true →
        (f.half = none → f.loc ≠ 21 →
          exec (.frameByte b) s =
            .next ({ s with frame := some { f with half := some ((s.windowRead .c f.loc).setWidth 8) } }.setPort .c
              { s.port .c with dataOut := s.windowRead .c f.loc })) ∧
        (f.half = none → f.loc = 21 →
          exec (.frameByte b) s =
            .next { (s.dataRead .c) with
              frame := some { f with half := some (((s.dataRead .c).port .c).dataOut.setWidth 8) } }) ∧
        (∀ low, f.half = some low → exec (.frameByte b) s = .next (s.passWord .c))))
end

