-- ==== Sys2Proof/Laws/State.lean ====
section
/-! SUPPORT. What each update of the state leaves: one lemma per field of each shared update, so that no proof unfolds a
record update. -/

namespace Sys2Proof.Machine

/-! ### One value per port -/

@[simp] theorem PerPort.get_set_same {α : Type} (x : PerPort α) (p : Port) (v : α) : (x.set p v).get p = v := by
  cases p <;> rfl

theorem PerPort.get_set_of_ne {α : Type} (x : PerPort α) {p q : Port} (v : α) (h : q ≠ p) :
    (x.set p v).get q = x.get q := by
  cases p <;> cases q <;> first | rfl | exact absurd rfl h

@[simp] theorem PerPort.get_mapPorts {α β : Type} (x : PerPort α) (f : Port → α → β) (p : Port) :
    (x.mapPorts f).get p = f p (x.get p) := by
  cases p <;> rfl

@[simp] theorem PerPort.set_set {α : Type} (x : PerPort α) (p : Port) (v w : α) : (x.set p v).set p w = x.set p w := by
  cases p <;> rfl

/-! ### The ports after an update -/

@[simp] theorem State.port_setPort_same (s : State) (p : Port) (u : PortUnit) : (s.setPort p u).port p = u := by
  cases p <;> rfl

theorem State.port_setPort_of_ne (s : State) {p q : Port} (u : PortUnit) (h : q ≠ p) :
    (s.setPort p u).port q = s.port q := by
  cases p <;> cases q <;> first | rfl | exact absurd rfl h

@[simp] theorem State.port_updPort_same (s : State) (p : Port) (f : PortUnit → PortUnit) :
    (s.updPort p f).port p = f (s.port p) := by
  cases p <;> rfl

theorem State.port_updPort_of_ne (s : State) {p q : Port} (f : PortUnit → PortUnit) (h : q ≠ p) :
    (s.updPort p f).port q = s.port q := by
  cases p <;> cases q <;> first | rfl | exact absurd rfl h

@[simp] theorem State.port_mapPorts (s : State) (f : Port → PortUnit → PortUnit) (p : Port) :
    (s.mapPorts f).port p = f p (s.port p) := by
  cases p <;> rfl

@[simp] theorem State.setPort_setPort (s : State) (p : Port) (u v : PortUnit) :
    (s.setPort p u).setPort p v = s.setPort p v := by
  cases p <;> rfl

@[simp] theorem State.updPort_updPort (s : State) (p : Port) (f g : PortUnit → PortUnit) :
    (s.updPort p f).updPort p g = s.updPort p fun u => g (f u) := by
  cases p <;> rfl

@[simp] theorem State.pending_setPort (s : State) (p : Port) (u : PortUnit) : (s.setPort p u).pending = s.pending := rfl

@[simp] theorem State.powered_setPort (s : State) (p : Port) (u : PortUnit) : (s.setPort p u).powered = s.powered := rfl

@[simp] theorem State.resetLine_setPort (s : State) (p : Port) (u : PortUnit) : (s.setPort p u).resetLine = s.resetLine := rfl

@[simp] theorem State.part_setPort (s : State) (p : Port) (u : PortUnit) : (s.setPort p u).part = s.part := rfl

@[simp] theorem State.array_setPort (s : State) (p : Port) (u : PortUnit) : (s.setPort p u).array = s.array := rfl

@[simp] theorem State.power_setPort (s : State) (p : Port) (u : PortUnit) : (s.setPort p u).power = s.power := rfl

@[simp] theorem State.standbyTimer_setPort (s : State) (p : Port) (u : PortUnit) : (s.setPort p u).standbyTimer = s.standbyTimer := rfl

@[simp] theorem State.lastGranted_setPort (s : State) (p : Port) (u : PortUnit) : (s.setPort p u).lastGranted = s.lastGranted := rfl

@[simp] theorem State.inFlight_setPort (s : State) (p : Port) (u : PortUnit) : (s.setPort p u).inFlight = s.inFlight := rfl

@[simp] theorem State.live_setPort (s : State) (p : Port) (u : PortUnit) : (s.setPort p u).live = s.live := rfl

@[simp] theorem State.currentSlot_setPort (s : State) (p : Port) (u : PortUnit) : (s.setPort p u).currentSlot = s.currentSlot := rfl

@[simp] theorem State.tableState_setPort (s : State) (p : Port) (u : PortUnit) : (s.setPort p u).tableState = s.tableState := rfl

@[simp] theorem State.held_setPort (s : State) (p : Port) (u : PortUnit) : (s.setPort p u).held = s.held := rfl

@[simp] theorem State.counts_setPort (s : State) (p : Port) (u : PortUnit) : (s.setPort p u).counts = s.counts := rfl

@[simp] theorem State.openSets_setPort (s : State) (p : Port) (u : PortUnit) : (s.setPort p u).openSets = s.openSets := rfl

@[simp] theorem State.frame_setPort (s : State) (p : Port) (u : PortUnit) : (s.setPort p u).frame = s.frame := rfl

@[simp] theorem State.selected_setPort (s : State) (p : Port) (u : PortUnit) : (s.setPort p u).selected = s.selected := rfl

@[simp] theorem State.pending_updPort (s : State) (p : Port) (f : PortUnit → PortUnit) : (s.updPort p f).pending = s.pending := rfl

@[simp] theorem State.powered_updPort (s : State) (p : Port) (f : PortUnit → PortUnit) : (s.updPort p f).powered = s.powered := rfl

@[simp] theorem State.resetLine_updPort (s : State) (p : Port) (f : PortUnit → PortUnit) : (s.updPort p f).resetLine = s.resetLine := rfl

@[simp] theorem State.part_updPort (s : State) (p : Port) (f : PortUnit → PortUnit) : (s.updPort p f).part = s.part := rfl

@[simp] theorem State.array_updPort (s : State) (p : Port) (f : PortUnit → PortUnit) : (s.updPort p f).array = s.array := rfl

@[simp] theorem State.power_updPort (s : State) (p : Port) (f : PortUnit → PortUnit) : (s.updPort p f).power = s.power := rfl

@[simp] theorem State.standbyTimer_updPort (s : State) (p : Port) (f : PortUnit → PortUnit) : (s.updPort p f).standbyTimer = s.standbyTimer := rfl

@[simp] theorem State.lastGranted_updPort (s : State) (p : Port) (f : PortUnit → PortUnit) : (s.updPort p f).lastGranted = s.lastGranted := rfl

@[simp] theorem State.inFlight_updPort (s : State) (p : Port) (f : PortUnit → PortUnit) : (s.updPort p f).inFlight = s.inFlight := rfl

@[simp] theorem State.live_updPort (s : State) (p : Port) (f : PortUnit → PortUnit) : (s.updPort p f).live = s.live := rfl

@[simp] theorem State.currentSlot_updPort (s : State) (p : Port) (f : PortUnit → PortUnit) : (s.updPort p f).currentSlot = s.currentSlot := rfl

@[simp] theorem State.tableState_updPort (s : State) (p : Port) (f : PortUnit → PortUnit) : (s.updPort p f).tableState = s.tableState := rfl

@[simp] theorem State.held_updPort (s : State) (p : Port) (f : PortUnit → PortUnit) : (s.updPort p f).held = s.held := rfl

@[simp] theorem State.counts_updPort (s : State) (p : Port) (f : PortUnit → PortUnit) : (s.updPort p f).counts = s.counts := rfl

@[simp] theorem State.openSets_updPort (s : State) (p : Port) (f : PortUnit → PortUnit) : (s.updPort p f).openSets = s.openSets := rfl

@[simp] theorem State.frame_updPort (s : State) (p : Port) (f : PortUnit → PortUnit) : (s.updPort p f).frame = s.frame := rfl

@[simp] theorem State.selected_updPort (s : State) (p : Port) (f : PortUnit → PortUnit) : (s.updPort p f).selected = s.selected := rfl

@[simp] theorem State.pending_mapPorts (s : State) (f : Port → PortUnit → PortUnit) :
    (s.mapPorts f).pending = s.pending := rfl

@[simp] theorem State.powered_mapPorts (s : State) (f : Port → PortUnit → PortUnit) :
    (s.mapPorts f).powered = s.powered := rfl

@[simp] theorem State.resetLine_mapPorts (s : State) (f : Port → PortUnit → PortUnit) :
    (s.mapPorts f).resetLine = s.resetLine := rfl

@[simp] theorem State.part_mapPorts (s : State) (f : Port → PortUnit → PortUnit) :
    (s.mapPorts f).part = s.part := rfl

@[simp] theorem State.array_mapPorts (s : State) (f : Port → PortUnit → PortUnit) :
    (s.mapPorts f).array = s.array := rfl

@[simp] theorem State.power_mapPorts (s : State) (f : Port → PortUnit → PortUnit) :
    (s.mapPorts f).power = s.power := rfl

@[simp] theorem State.standbyTimer_mapPorts (s : State) (f : Port → PortUnit → PortUnit) :
    (s.mapPorts f).standbyTimer = s.standbyTimer := rfl

@[simp] theorem State.lastGranted_mapPorts (s : State) (f : Port → PortUnit → PortUnit) :
    (s.mapPorts f).lastGranted = s.lastGranted := rfl

@[simp] theorem State.inFlight_mapPorts (s : State) (f : Port → PortUnit → PortUnit) :
    (s.mapPorts f).inFlight = s.inFlight := rfl

@[simp] theorem State.live_mapPorts (s : State) (f : Port → PortUnit → PortUnit) :
    (s.mapPorts f).live = s.live := rfl

@[simp] theorem State.currentSlot_mapPorts (s : State) (f : Port → PortUnit → PortUnit) :
    (s.mapPorts f).currentSlot = s.currentSlot := rfl

@[simp] theorem State.tableState_mapPorts (s : State) (f : Port → PortUnit → PortUnit) :
    (s.mapPorts f).tableState = s.tableState := rfl

@[simp] theorem State.held_mapPorts (s : State) (f : Port → PortUnit → PortUnit) :
    (s.mapPorts f).held = s.held := rfl

@[simp] theorem State.counts_mapPorts (s : State) (f : Port → PortUnit → PortUnit) :
    (s.mapPorts f).counts = s.counts := rfl

@[simp] theorem State.openSets_mapPorts (s : State) (f : Port → PortUnit → PortUnit) :
    (s.mapPorts f).openSets = s.openSets := rfl

@[simp] theorem State.frame_mapPorts (s : State) (f : Port → PortUnit → PortUnit) :
    (s.mapPorts f).frame = s.frame := rfl

@[simp] theorem State.selected_mapPorts (s : State) (f : Port → PortUnit → PortUnit) :
    (s.mapPorts f).selected = s.selected := rfl

/-! ### An answer -/

@[simp] theorem State.pending_answer (s : State) (p : Port) (ws : Vector Word 8) : (s.answer p ws).pending = s.pending := rfl

@[simp] theorem State.powered_answer (s : State) (p : Port) (ws : Vector Word 8) : (s.answer p ws).powered = s.powered := rfl

@[simp] theorem State.resetLine_answer (s : State) (p : Port) (ws : Vector Word 8) : (s.answer p ws).resetLine = s.resetLine := rfl

@[simp] theorem State.part_answer (s : State) (p : Port) (ws : Vector Word 8) : (s.answer p ws).part = s.part := rfl

@[simp] theorem State.array_answer (s : State) (p : Port) (ws : Vector Word 8) : (s.answer p ws).array = s.array := rfl

@[simp] theorem State.power_answer (s : State) (p : Port) (ws : Vector Word 8) : (s.answer p ws).power = s.power := rfl

@[simp] theorem State.standbyTimer_answer (s : State) (p : Port) (ws : Vector Word 8) : (s.answer p ws).standbyTimer = s.standbyTimer := rfl

@[simp] theorem State.lastGranted_answer (s : State) (p : Port) (ws : Vector Word 8) : (s.answer p ws).lastGranted = s.lastGranted := rfl

@[simp] theorem State.inFlight_answer (s : State) (p : Port) (ws : Vector Word 8) : (s.answer p ws).inFlight = s.inFlight := rfl

@[simp] theorem State.live_answer (s : State) (p : Port) (ws : Vector Word 8) : (s.answer p ws).live = s.live := rfl

@[simp] theorem State.currentSlot_answer (s : State) (p : Port) (ws : Vector Word 8) : (s.answer p ws).currentSlot = s.currentSlot := rfl

@[simp] theorem State.tableState_answer (s : State) (p : Port) (ws : Vector Word 8) : (s.answer p ws).tableState = s.tableState := rfl

@[simp] theorem State.held_answer (s : State) (p : Port) (ws : Vector Word 8) : (s.answer p ws).held = s.held := rfl

@[simp] theorem State.counts_answer (s : State) (p : Port) (ws : Vector Word 8) : (s.answer p ws).counts = s.counts := rfl

@[simp] theorem State.openSets_answer (s : State) (p : Port) (ws : Vector Word 8) : (s.answer p ws).openSets = s.openSets := rfl

@[simp] theorem State.frame_answer (s : State) (p : Port) (ws : Vector Word 8) : (s.answer p ws).frame = s.frame := rfl

@[simp] theorem State.selected_answer (s : State) (p : Port) (ws : Vector Word 8) : (s.answer p ws).selected = s.selected := rfl

@[simp] theorem State.port_answer_same (s : State) (p : Port) (ws : Vector Word 8) :
    (s.answer p ws).port p = { s.port p with answers := ws } := by
  cases p <;> rfl

theorem State.port_answer_of_ne (s : State) {p q : Port} (ws : Vector Word 8) (h : q ≠ p) :
    (s.answer p ws).port q = s.port q := State.port_updPort_of_ne s _ h

/-! ### The frame of port C moves past a word -/

@[simp] theorem State.pending_passWord (s : State) (p : Port) : (s.passWord p).pending = s.pending := by
  cases p <;> rfl

@[simp] theorem State.powered_passWord (s : State) (p : Port) : (s.passWord p).powered = s.powered := by
  cases p <;> rfl

@[simp] theorem State.resetLine_passWord (s : State) (p : Port) : (s.passWord p).resetLine = s.resetLine := by
  cases p <;> rfl

@[simp] theorem State.part_passWord (s : State) (p : Port) : (s.passWord p).part = s.part := by
  cases p <;> rfl

@[simp] theorem State.array_passWord (s : State) (p : Port) : (s.passWord p).array = s.array := by
  cases p <;> rfl

@[simp] theorem State.power_passWord (s : State) (p : Port) : (s.passWord p).power = s.power := by
  cases p <;> rfl

@[simp] theorem State.standbyTimer_passWord (s : State) (p : Port) : (s.passWord p).standbyTimer = s.standbyTimer := by
  cases p <;> rfl

@[simp] theorem State.lastGranted_passWord (s : State) (p : Port) : (s.passWord p).lastGranted = s.lastGranted := by
  cases p <;> rfl

@[simp] theorem State.inFlight_passWord (s : State) (p : Port) : (s.passWord p).inFlight = s.inFlight := by
  cases p <;> rfl

@[simp] theorem State.live_passWord (s : State) (p : Port) : (s.passWord p).live = s.live := by
  cases p <;> rfl

@[simp] theorem State.currentSlot_passWord (s : State) (p : Port) : (s.passWord p).currentSlot = s.currentSlot := by
  cases p <;> rfl

@[simp] theorem State.tableState_passWord (s : State) (p : Port) : (s.passWord p).tableState = s.tableState := by
  cases p <;> rfl

@[simp] theorem State.held_passWord (s : State) (p : Port) : (s.passWord p).held = s.held := by
  cases p <;> rfl

@[simp] theorem State.counts_passWord (s : State) (p : Port) : (s.passWord p).counts = s.counts := by
  cases p <;> rfl

@[simp] theorem State.openSets_passWord (s : State) (p : Port) : (s.passWord p).openSets = s.openSets := by
  cases p <;> rfl

@[simp] theorem State.selected_passWord (s : State) (p : Port) : (s.passWord p).selected = s.selected := by
  cases p <;> rfl

@[simp] theorem State.ports_passWord (s : State) (p : Port) : (s.passWord p).ports = s.ports := by
  cases p <;> rfl

@[simp] theorem State.port_passWord (s : State) (p q : Port) : (s.passWord p).port q = s.port q := by
  cases p <;> rfl

/-! ### What follows at once -/

@[simp] theorem State.pending_wakeIfWanted (s : State) : s.wakeIfWanted.pending = s.pending := by
  unfold State.wakeIfWanted; split <;> rfl

@[simp] theorem State.powered_wakeIfWanted (s : State) : s.wakeIfWanted.powered = s.powered := by
  unfold State.wakeIfWanted; split <;> rfl

@[simp] theorem State.resetLine_wakeIfWanted (s : State) : s.wakeIfWanted.resetLine = s.resetLine := by
  unfold State.wakeIfWanted; split <;> rfl

@[simp] theorem State.part_wakeIfWanted (s : State) : s.wakeIfWanted.part = s.part := by
  unfold State.wakeIfWanted; split <;> rfl

@[simp] theorem State.array_wakeIfWanted (s : State) : s.wakeIfWanted.array = s.array := by
  unfold State.wakeIfWanted; split <;> rfl

@[simp] theorem State.lastGranted_wakeIfWanted (s : State) : s.wakeIfWanted.lastGranted = s.lastGranted := by
  unfold State.wakeIfWanted; split <;> rfl

@[simp] theorem State.inFlight_wakeIfWanted (s : State) : s.wakeIfWanted.inFlight = s.inFlight := by
  unfold State.wakeIfWanted; split <;> rfl

@[simp] theorem State.live_wakeIfWanted (s : State) : s.wakeIfWanted.live = s.live := by
  unfold State.wakeIfWanted; split <;> rfl

@[simp] theorem State.currentSlot_wakeIfWanted (s : State) : s.wakeIfWanted.currentSlot = s.currentSlot := by
  unfold State.wakeIfWanted; split <;> rfl

@[simp] theorem State.tableState_wakeIfWanted (s : State) : s.wakeIfWanted.tableState = s.tableState := by
  unfold State.wakeIfWanted; split <;> rfl

@[simp] theorem State.held_wakeIfWanted (s : State) : s.wakeIfWanted.held = s.held := by
  unfold State.wakeIfWanted; split <;> rfl

@[simp] theorem State.counts_wakeIfWanted (s : State) : s.wakeIfWanted.counts = s.counts := by
  unfold State.wakeIfWanted; split <;> rfl

@[simp] theorem State.openSets_wakeIfWanted (s : State) : s.wakeIfWanted.openSets = s.openSets := by
  unfold State.wakeIfWanted; split <;> rfl

@[simp] theorem State.frame_wakeIfWanted (s : State) : s.wakeIfWanted.frame = s.frame := by
  unfold State.wakeIfWanted; split <;> rfl

@[simp] theorem State.selected_wakeIfWanted (s : State) : s.wakeIfWanted.selected = s.selected := by
  unfold State.wakeIfWanted; split <;> rfl

@[simp] theorem State.standbyTimer_wakeIfWanted (s : State) : s.wakeIfWanted.standbyTimer = s.standbyTimer := by
  unfold State.wakeIfWanted; split <;> rfl

@[simp] theorem State.ports_wakeIfWanted (s : State) : s.wakeIfWanted.ports = s.ports := by
  unfold State.wakeIfWanted; split <;> rfl

@[simp] theorem State.pending_settle (s : State) : s.settle.pending = s.pending := by
  show s.wakeIfWanted.pending = s.pending; simp

@[simp] theorem State.powered_settle (s : State) : s.settle.powered = s.powered := by
  show s.wakeIfWanted.powered = s.powered; simp

@[simp] theorem State.resetLine_settle (s : State) : s.settle.resetLine = s.resetLine := by
  show s.wakeIfWanted.resetLine = s.resetLine; simp

@[simp] theorem State.part_settle (s : State) : s.settle.part = s.part := by
  show s.wakeIfWanted.part = s.part; simp

@[simp] theorem State.array_settle (s : State) : s.settle.array = s.array := by
  show s.wakeIfWanted.array = s.array; simp

@[simp] theorem State.lastGranted_settle (s : State) : s.settle.lastGranted = s.lastGranted := by
  show s.wakeIfWanted.lastGranted = s.lastGranted; simp

@[simp] theorem State.inFlight_settle (s : State) : s.settle.inFlight = s.inFlight := by
  show s.wakeIfWanted.inFlight = s.inFlight; simp

@[simp] theorem State.live_settle (s : State) : s.settle.live = s.live := by
  show s.wakeIfWanted.live = s.live; simp

@[simp] theorem State.currentSlot_settle (s : State) : s.settle.currentSlot = s.currentSlot := by
  show s.wakeIfWanted.currentSlot = s.currentSlot; simp

@[simp] theorem State.tableState_settle (s : State) : s.settle.tableState = s.tableState := by
  show s.wakeIfWanted.tableState = s.tableState; simp

@[simp] theorem State.held_settle (s : State) : s.settle.held = s.held := by
  show s.wakeIfWanted.held = s.held; simp

@[simp] theorem State.counts_settle (s : State) : s.settle.counts = s.counts := by
  show s.wakeIfWanted.counts = s.counts; simp

@[simp] theorem State.openSets_settle (s : State) : s.settle.openSets = s.openSets := by
  show s.wakeIfWanted.openSets = s.openSets; simp

@[simp] theorem State.frame_settle (s : State) : s.settle.frame = s.frame := by
  show s.wakeIfWanted.frame = s.frame; simp

@[simp] theorem State.selected_settle (s : State) : s.settle.selected = s.selected := by
  show s.wakeIfWanted.selected = s.selected; simp

/-- Settling changes nothing of a port unit but its stall timer. -/
theorem State.port_settle (s : State) (p : Port) :
    s.settle.port p =
      { s.port p with
        stallTimer :=
          followTimer (decide ((s.port p).stallSetting ≠ 0) && s.wakeIfWanted.followStandby.waitsOnData p)
            (s.port p).stallTimer } := by
  have h : s.wakeIfWanted.followStandby.port p = s.port p := by
    show s.wakeIfWanted.ports.get p = s.ports.get p
    simp
  show (s.wakeIfWanted.followStandby.followStall).port p = _
  unfold State.followStall
  simp only [State.port_mapPorts, h]

end Sys2Proof.Machine
end

