-- ==== Sys2Proof/Laws/Memory.lean ====
section
/-! SUPPORT. The sector array: every operation keeps the canonical form, and what each leaves at every sector. -/

namespace Sys2Proof.Machine

/-! ### The canonical form -/

/-- The canonical form, without neighbours: every later entry has a greater sector number. -/
theorem Memory.wf_iff_pairwise (m : Memory) : Memory.wf m = true ↔ m.Pairwise fun x y => x.1 < y.1 := by
  induction m with
  | nil => simp [Memory.wf]
  | cons x rest ih =>
    cases rest with
    | nil => simp [Memory.wf]
    | cons y tail =>
      obtain ⟨n, a⟩ := x
      obtain ⟨k, b⟩ := y
      simp only [Memory.wf, Bool.and_eq_true, decide_eq_true_eq, ih, List.pairwise_cons, List.mem_cons,
        forall_eq_or_imp]
      constructor
      · rintro ⟨h, h1, h2⟩
        exact ⟨⟨h, fun z hz => Nat.lt_trans h (h1 z hz)⟩, h1, h2⟩
      · rintro ⟨⟨h, _⟩, h1, h2⟩
        exact ⟨h, h1, h2⟩

/-- An entry of a memory after a put is an old one or the new one. -/
theorem Memory.mem_put {m : Memory} {n : Nat} {v : Sector} {x : Nat × Sector} (h : x ∈ Memory.put m n v) :
    x = (n, v) ∨ x ∈ m := by
  induction m with
  | nil => simpa [Memory.put] using h
  | cons y rest ih =>
    obtain ⟨k, w⟩ := y
    unfold Memory.put at h
    split at h
    · simpa using h
    · split at h
      · rcases List.mem_cons.mp h with h | h
        · exact Or.inl h
        · exact Or.inr (List.mem_cons_of_mem _ h)
      · rcases List.mem_cons.mp h with h | h
        · exact Or.inr (by simp [h])
        · rcases ih h with h | h
          · exact Or.inl h
          · exact Or.inr (List.mem_cons_of_mem _ h)

/-- Placing a sector keeps the canonical form. -/
theorem Memory.wf_put {m : Memory} (h : Memory.wf m = true) (n : Nat) (v : Sector) :
    Memory.wf (Memory.put m n v) = true := by
  rw [Memory.wf_iff_pairwise] at h ⊢
  induction m with
  | nil => simp [Memory.put]
  | cons y rest ih =>
    obtain ⟨k, w⟩ := y
    obtain ⟨h1, h2⟩ := List.pairwise_cons.mp h
    unfold Memory.put
    split
    · rename_i hlt
      refine List.pairwise_cons.mpr ⟨?_, h⟩
      intro z hz
      rcases List.mem_cons.mp hz with hz | hz
      · simpa [hz] using hlt
      · exact Nat.lt_trans hlt (h1 z hz)
    · split
      · rename_i heq
        subst heq
        exact List.pairwise_cons.mpr ⟨h1, h2⟩
      · rename_i hlt hne
        refine List.pairwise_cons.mpr ⟨?_, ih h2⟩
        intro z hz
        rcases Memory.mem_put hz with hz | hz
        · subst hz
          show k < n
          omega
        · exact h1 z hz

/-- Clearing a range keeps the canonical form. -/
theorem Memory.wf_clearRange {m : Memory} (h : Memory.wf m = true) (lo hi : Nat) :
    Memory.wf (Memory.clearRange m lo hi) = true := by
  rw [Memory.wf_iff_pairwise] at h ⊢
  exact h.filter _

/-- Damaging a range keeps the canonical form. -/
theorem Memory.wf_damageFrom {m : Memory} (h : Memory.wf m = true) (lo count : Nat) :
    Memory.wf (Memory.damageFrom m lo count) = true := by
  induction count with
  | zero => exact h
  | succ k ih => exact Memory.wf_put ih _ _

/-- A sector program keeps the canonical form. -/
theorem Memory.wf_programSector {m : Memory} (h : Memory.wf m = true) (n : Nat) (c : Content) (ok : Bool) :
    Memory.wf (programSector m n c ok) = true := by
  unfold programSector
  split
  · exact Memory.wf_put h _ _
  · exact Memory.wf_put h _ _
  · exact h

/-- A block blank keeps the canonical form. -/
theorem Memory.wf_blankBlock {m : Memory} (h : Memory.wf m = true) (b : Nat) : Memory.wf (blankBlock m b) = true :=
  Memory.wf_clearRange h _ _

/-- A cut keeps the canonical form. -/
theorem Memory.wf_cutWork {m : Memory} (h : Memory.wf m = true) (slot : Fin 2) (begun : Bool) (w : Work) :
    Memory.wf (cutWork m slot begun w) = true := by
  cases w with
  | readSector n => exact h
  | programSector n d =>
    simp only [cutWork]
    split
    · exact Memory.wf_programSector h _ _ _
    · exact h
  | blankBlock b => simp only [cutWork]; exact Memory.wf_damageFrom h _ _
  | tableBlank t => simp only [cutWork]; exact Memory.wf_damageFrom h _ _
  | tableHeader t =>
    simp only [cutWork]
    split
    · exact Memory.wf_programSector h _ _ _
    · exact h
  | tableRecords t =>
    simp only [cutWork]
    split
    · exact Memory.wf_programSector h _ _ _
    · exact h

/-- A reset or a loss of power keeps the canonical form. -/
theorem State.wf_cutArray {s : State} (h : Memory.wf s.array = true) (begun : Bool) :
    Memory.wf (s.cutArray begun) = true := by
  unfold State.cutArray
  split
  · exact Memory.wf_cutWork h _ _ _
  · exact h
  · exact h

/-- The array of the reset state has the canonical form. -/
theorem State.wf_reset : Memory.wf State.reset.array = true := rfl

/-! ### What each operation leaves at a sector -/

/-- A sector placed reads back. -/
theorem Memory.get_put_same (m : Memory) (n : Nat) (v : Sector) : Memory.get (Memory.put m n v) n = some v := by
  induction m with
  | nil => simp [Memory.put, Memory.get]
  | cons y rest ih =>
    obtain ⟨k, w⟩ := y
    unfold Memory.put
    split
    · simp [Memory.get]
    · split
      · simp [Memory.get]
      · rename_i hlt hne
        have : ¬ k = n := fun h => hne h.symm
        simp [Memory.get, this, ih]

/-- Placing a sector leaves every other sector. -/
theorem Memory.get_put_of_ne (m : Memory) {n k : Nat} (v : Sector) (h : k ≠ n) :
    Memory.get (Memory.put m n v) k = Memory.get m k := by
  induction m with
  | nil => simp [Memory.put, Memory.get, Ne.symm h]
  | cons y rest ih =>
    obtain ⟨j, w⟩ := y
    unfold Memory.put
    split
    · simp [Memory.get, Ne.symm h]
    · split
      · rename_i heq
        subst heq
        simp [Memory.get, Ne.symm h]
      · simp [Memory.get, ih]

/-- Clearing a range leaves its sectors BLANK and every other sector. -/
theorem Memory.get_clearRange (m : Memory) (lo hi k : Nat) :
    Memory.get (Memory.clearRange m lo hi) k = if lo ≤ k ∧ k < hi then none else Memory.get m k := by
  induction m with
  | nil => simp [Memory.clearRange, Memory.get]
  | cons y rest ih =>
    obtain ⟨j, w⟩ := y
    unfold Memory.clearRange at ih ⊢
    by_cases hj : j < lo ∨ hi ≤ j
    · have hd : (decide (j < lo) || decide (hi ≤ j)) = true := by simpa using hj
      simp only [List.filter_cons, hd, if_true, Memory.get, ih]
      by_cases hk : j = k
      · subst hk
        have : ¬ (lo ≤ j ∧ j < hi) := by omega
        simp [this]
      · simp [hk]
    · have hd : (decide (j < lo) || decide (hi ≤ j)) = false := by simpa using hj
      simp only [List.filter_cons, hd, Bool.false_eq_true, if_false, Memory.get, ih]
      by_cases hk : j = k
      · subst hk
        have : lo ≤ j ∧ j < hi := by omega
        simp [this]
      · simp [hk]

/-- A sector outside the block stays as it was when the block is blanked; a sector of the block is BLANK. -/
theorem get_blankBlock (m : Memory) (b k : Nat) :
    Memory.get (blankBlock m b) k = if 16 * b ≤ k ∧ k < 16 * b + 16 then none else Memory.get m k := by
  unfold blankBlock
  rw [Memory.get_clearRange]
  simp only [Config.blockSectors, Nat.mul_comm b 16]

/-- A program changes its own sector only, and only when that is BLANK. -/
theorem get_programSector (m : Memory) (n k : Nat) (c : Content) (ok : Bool) :
    Memory.get (programSector m n c ok) k =
      if k = n ∧ Memory.get m n = none then some (if ok then writtenSector n c else .damaged) else Memory.get m k := by
  unfold programSector programReport
  cases hm : Memory.get m n with
  | some v => simp
  | none =>
    cases ok
    · by_cases h : k = n
      · subst h; simp [Memory.get_put_same]
      · simp [h, Memory.get_put_of_ne _ _ h]
    · by_cases h : k = n
      · subst h; simp [Memory.get_put_same]
      · simp [h, Memory.get_put_of_ne _ _ h]

/-- Damaging a range leaves its sectors DAMAGED and every other sector. -/
theorem Memory.get_damageFrom (m : Memory) (lo count k : Nat) :
    Memory.get (Memory.damageFrom m lo count) k =
      if lo ≤ k ∧ k < lo + count then some .damaged else Memory.get m k := by
  induction count with
  | zero =>
    simp [Memory.damageFrom]
  | succ c ih =>
    unfold Memory.damageFrom
    by_cases h : k = lo + c
    · subst h
      rw [Memory.get_put_same]
      simp
    · rw [Memory.get_put_of_ne _ _ h, ih]
      have : (lo ≤ k ∧ k < lo + c) ↔ (lo ≤ k ∧ k < lo + (c + 1)) := by omega
      simp only [this]

end Sys2Proof.Machine
end

