-- ==== Sys2Proof/Laws/Ops.lean ====
section
/-! SUPPORT. What each shared operation can do, said once: accesses, the ACTIVE entry, the end of an entry, change counts,
the allocation rule, the arbiter's choice, the overlap test, the issue and the port's answers. -/

namespace Sys2Proof.Machine

/-! ### Accesses -/

/-- An access that is not made changes nothing (R173, R174). -/
theorem State.onWrite_of_not_made {s : State} {p : Port} {loc : Nat} (f : State → State)
    (h : s.accessMade p false loc = false) : s.onWrite p loc f = s := by
  simp [State.onWrite, h]

/-- An access that is made has its effect, and port C's frame moves on. -/
theorem State.onWrite_of_made {s : State} {p : Port} {loc : Nat} (f : State → State)
    (h : s.accessMade p false loc = true) : s.onWrite p loc f = (f s).passWord p := by
  simp [State.onWrite, h]

/-- At ports A and B an access is made exactly when the port takes accesses. -/
theorem State.accessMade_parallel (s : State) {p : Port} (hp : p ≠ .c) (reading : Bool) (loc : Nat) :
    s.accessMade p reading loc = s.takesAccess p := by
  cases p
  · simp [State.accessMade]
  · simp [State.accessMade]
  · exact absurd rfl hp

/-! ### The ACTIVE entry -/

theorem PortUnit.activeEntry_cons (u : PortUnit) (e : Entry) (rest : List Entry) (h : u.queue = e :: rest) :
    u.activeEntry = e.active.map fun a => (e, a) := by
  simp [PortUnit.activeEntry, h]

/-- The ACTIVE entry is the oldest of the queue. -/
theorem PortUnit.queue_of_activeEntry {u : PortUnit} {e : Entry} {a : Active} (h : u.activeEntry = some (e, a)) :
    u.queue = e :: u.queue.tail ∧ e.active = some a := by
  unfold PortUnit.activeEntry at h
  split at h
  · exact absurd h (by simp)
  · rename_i x rest hq
    cases hx : x.active with
    | none => simp [hx] at h
    | some b =>
      simp only [hx, Option.map_some, Option.some.injEq, Prod.mk.injEq] at h
      obtain ⟨h1, h2⟩ := h
      subst h1 h2
      exact ⟨by simp [hq], hx⟩

/-- Replacing the progress keeps the entry's tag, command and place. -/
theorem PortUnit.activeEntry_setProgress {u : PortUnit} {e : Entry} {a : Active} (pr : Progress)
    (h : u.activeEntry = some (e, a)) :
    (u.setProgress pr).activeEntry =
      some ({ e with active := some { a with progress := pr } }, { a with progress := pr }) := by
  obtain ⟨hq, _⟩ := PortUnit.queue_of_activeEntry h
  simp only [PortUnit.setProgress, h]
  unfold PortUnit.setActive
  rw [hq]
  rfl

/-! ### The end of an entry (R67) -/

/-- Without an ACTIVE entry nothing ends. -/
theorem State.finish_of_idle {s : State} {p : Port} (st : Status) (h : (s.port p).activeEntry = none) :
    s.finish p st = s := by
  simp [State.finish, h]

/-- The end of an ACTIVE entry, as one update of its port unit. -/
theorem State.finish_of_active {s : State} {p : Port} {e : Entry} {a : Active} (st : Status)
    (h : (s.port p).activeEntry = some (e, a)) :
    s.finish p st =
      s.setPort p
        { s.port p with
          queue := (s.port p).queue.tail, completions := (s.port p).completions ++ [s.endRecord e a.progress st],
          reserved := (s.port p).reserved - 1, transfers := (s.port p).keptBuffers (s.removedSegment p), offset := 0,
          moved := 0, stallTimer := none } := by
  simp only [State.finish, h]
  rfl

theorem State.port_finish_of_ne (s : State) {p q : Port} (st : Status) (h : q ≠ p) :
    (s.finish p st).port q = s.port q := by
  unfold State.finish
  split
  · rfl
  · exact State.port_updPort_of_ne _ _ h

@[simp] theorem State.pending_finish (s : State) (p : Port) (st : Status) : (s.finish p st).pending = s.pending := by
  unfold State.finish; split <;> rfl

@[simp] theorem State.powered_finish (s : State) (p : Port) (st : Status) : (s.finish p st).powered = s.powered := by
  unfold State.finish; split <;> rfl

@[simp] theorem State.resetLine_finish (s : State) (p : Port) (st : Status) : (s.finish p st).resetLine = s.resetLine := by
  unfold State.finish; split <;> rfl

@[simp] theorem State.part_finish (s : State) (p : Port) (st : Status) : (s.finish p st).part = s.part := by
  unfold State.finish; split <;> rfl

@[simp] theorem State.array_finish (s : State) (p : Port) (st : Status) : (s.finish p st).array = s.array := by
  unfold State.finish; split <;> rfl

@[simp] theorem State.power_finish (s : State) (p : Port) (st : Status) : (s.finish p st).power = s.power := by
  unfold State.finish; split <;> rfl

@[simp] theorem State.standbyTimer_finish (s : State) (p : Port) (st : Status) : (s.finish p st).standbyTimer = s.standbyTimer := by
  unfold State.finish; split <;> rfl

@[simp] theorem State.lastGranted_finish (s : State) (p : Port) (st : Status) : (s.finish p st).lastGranted = s.lastGranted := by
  unfold State.finish; split <;> rfl

@[simp] theorem State.inFlight_finish (s : State) (p : Port) (st : Status) : (s.finish p st).inFlight = s.inFlight := by
  unfold State.finish; split <;> rfl

@[simp] theorem State.live_finish (s : State) (p : Port) (st : Status) : (s.finish p st).live = s.live := by
  unfold State.finish; split <;> rfl

@[simp] theorem State.currentSlot_finish (s : State) (p : Port) (st : Status) : (s.finish p st).currentSlot = s.currentSlot := by
  unfold State.finish; split <;> rfl

@[simp] theorem State.tableState_finish (s : State) (p : Port) (st : Status) : (s.finish p st).tableState = s.tableState := by
  unfold State.finish; split <;> rfl

@[simp] theorem State.held_finish (s : State) (p : Port) (st : Status) : (s.finish p st).held = s.held := by
  unfold State.finish; split <;> rfl

@[simp] theorem State.counts_finish (s : State) (p : Port) (st : Status) : (s.finish p st).counts = s.counts := by
  unfold State.finish; split <;> rfl

@[simp] theorem State.openSets_finish (s : State) (p : Port) (st : Status) : (s.finish p st).openSets = s.openSets := by
  unfold State.finish; split <;> rfl

@[simp] theorem State.frame_finish (s : State) (p : Port) (st : Status) : (s.finish p st).frame = s.frame := by
  unfold State.finish; split <;> rfl

@[simp] theorem State.selected_finish (s : State) (p : Port) (st : Status) : (s.finish p st).selected = s.selected := by
  unfold State.finish; split <;> rfl

/-! ### Change counts (R132) -/

@[simp] theorem State.pending_riseCount (s : State) (i : Index) (p : Port) : (s.riseCount i p).pending = s.pending := rfl

@[simp] theorem State.powered_riseCount (s : State) (i : Index) (p : Port) : (s.riseCount i p).powered = s.powered := rfl

@[simp] theorem State.resetLine_riseCount (s : State) (i : Index) (p : Port) : (s.riseCount i p).resetLine = s.resetLine := rfl

@[simp] theorem State.part_riseCount (s : State) (i : Index) (p : Port) : (s.riseCount i p).part = s.part := rfl

@[simp] theorem State.array_riseCount (s : State) (i : Index) (p : Port) : (s.riseCount i p).array = s.array := rfl

@[simp] theorem State.power_riseCount (s : State) (i : Index) (p : Port) : (s.riseCount i p).power = s.power := rfl

@[simp] theorem State.standbyTimer_riseCount (s : State) (i : Index) (p : Port) : (s.riseCount i p).standbyTimer = s.standbyTimer := rfl

@[simp] theorem State.lastGranted_riseCount (s : State) (i : Index) (p : Port) : (s.riseCount i p).lastGranted = s.lastGranted := rfl

@[simp] theorem State.inFlight_riseCount (s : State) (i : Index) (p : Port) : (s.riseCount i p).inFlight = s.inFlight := rfl

@[simp] theorem State.live_riseCount (s : State) (i : Index) (p : Port) : (s.riseCount i p).live = s.live := rfl

@[simp] theorem State.currentSlot_riseCount (s : State) (i : Index) (p : Port) : (s.riseCount i p).currentSlot = s.currentSlot := rfl

@[simp] theorem State.tableState_riseCount (s : State) (i : Index) (p : Port) : (s.riseCount i p).tableState = s.tableState := rfl

@[simp] theorem State.held_riseCount (s : State) (i : Index) (p : Port) : (s.riseCount i p).held = s.held := rfl

@[simp] theorem State.openSets_riseCount (s : State) (i : Index) (p : Port) : (s.riseCount i p).openSets = s.openSets := rfl

@[simp] theorem State.frame_riseCount (s : State) (i : Index) (p : Port) : (s.riseCount i p).frame = s.frame := rfl

@[simp] theorem State.selected_riseCount (s : State) (i : Index) (p : Port) : (s.riseCount i p).selected = s.selected := rfl

/-- A rise adds one to its own count and leaves the others. -/
theorem State.count_riseCount (s : State) (i j : Index) (p : Port) :
    (s.riseCount i p).counts[j] = if j = i then s.counts[i] + 1 else s.counts[j] := by
  show (s.counts.set i (s.counts[i] + 1))[j] = _
  simp only [Fin.getElem_fin, Vector.getElem_set]
  by_cases h : j = i
  · simp [h]
  · have : ¬ i.val = j.val := fun hv => h (Fin.ext hv.symm)
    simp [h, this]

/-- A rise changes nothing of a port unit but its notice set. -/
theorem State.port_riseCount (s : State) (i : Index) (p q : Port) :
    (s.riseCount i p).port q =
      if q ≠ p ∧ (s.port q).watch &&& indexBit i ≠ 0 then
        { s.port q with notice := (s.port q).notice ||| indexBit i }
      else s.port q := by
  show (PerPort.mapPorts _ _).get q = _
  simp only [PerPort.get_mapPorts]
  rfl

/-! ### The allocation rule (R88) -/

theorem State.mayTake_iff (s : State) (p : Port) :
    s.mayTake p = true ↔
      0 < s.freeCount ∧ (s.port p).holding < (s.port p).limit ∧
        ((s.port p).holding < (s.port p).guarantee ∨ s.othersUnmet p ≤ s.freeCount - 1) := by
  simp [State.mayTake, and_assoc]

/-! ### The arbiter's choice (R72) -/

/-- The port chosen is eligible. -/
theorem State.eligible_of_grantee {s : State} {p : Port} (h : s.grantee = some p) : s.eligible p = true := by
  unfold State.grantee at h
  simp only at h
  split at h
  · rename_i h1; cases h; exact h1
  · split at h
    · rename_i h1; cases h; exact h1
    · split at h
      · rename_i h1; cases h; exact h1
      · cases h

/-- A port is chosen exactly when some port is eligible. -/
theorem State.grantee_isSome (s : State) : s.grantee.isSome = s.anyEligible := by
  unfold State.grantee State.anyEligible
  cases hl : s.lastGranted <;> cases ha : s.eligible .a <;> cases hb : s.eligible .b <;> cases hc : s.eligible .c <;>
    simp [nextPort, ha, hb, hc]

/-- A port is eligible exactly when it has work to grant. -/
theorem State.eligible_iff (s : State) (p : Port) : s.eligible p = true ↔ ∃ x, s.nextWork p = some x := by
  simp [State.eligible, Option.isSome_iff_exists]

/-! ### The issue of a queued command (R62) -/

theorem PortUnit.issueQueued_full {u : PortUnit} (tag : Byte) (given : Option QueuedCommand)
    (h : 4 ≤ u.queue.length) : u.issueQueued tag given = { u with answers := answerCode codeQueueFull } := by
  simp [PortUnit.issueQueued, Config.queueSize, h]

theorem PortUnit.issueQueued_accepted {u : PortUnit} {tag : Byte} {cmd : QueuedCommand} (h : u.queue.length < 4)
    (ht : ∀ e ∈ u.queue, e.tag ≠ tag) : u.issueQueued tag (some cmd) = u.accept tag cmd := by
  have h1 : ¬ 4 ≤ u.queue.length := by omega
  have h2 : (u.queue.any fun e => decide (e.tag = tag)) = false := by
    simpa [List.any_eq_false] using ht
  simp [PortUnit.issueQueued, Config.queueSize, h1, h2]

/-! ### Expiries and time (log 5) -/

/-- An expiry that is not due changes nothing. -/
theorem State.standbyExpiry_of_not_due {s : State} (h : s.standbyDue = false) : s.standbyExpiry = s := by
  simp [State.standbyExpiry, h]

theorem State.leaseExpiry_of_not_due {s : State} (h : s.leaseDue = false) : s.leaseExpiry = s := by
  simp [State.leaseExpiry, h]

theorem State.stallExpiry_of_not_due {s : State} {p : Port} (h : s.stallDue p = false) : s.stallExpiry p = s := by
  simp [State.stallExpiry, h]

/-- What a step on an empty queue can be: one expiry, or 10 ms. -/
theorem State.idle_cases (s : State) :
    s.idle = s.standbyExpiry ∨ s.idle = s.leaseExpiry ∨ (∃ p, s.idle = s.stallExpiry p) ∨ s.idle = s.tick := by
  unfold State.idle
  split
  · exact Or.inl rfl
  split
  · exact Or.inr (Or.inl rfl)
  split
  · exact Or.inr (Or.inr (Or.inl ⟨.a, rfl⟩))
  split
  · exact Or.inr (Or.inr (Or.inl ⟨.b, rfl⟩))
  split
  · exact Or.inr (Or.inr (Or.inl ⟨.c, rfl⟩))
  · exact Or.inr (Or.inr (Or.inr rfl))

/-- The loss of a claim changes the table state and the holder's CLAIM_LOST alone. -/
theorem State.loseClaim_of_claimed {s : State} {h : Port} {staged : Table} {lease n : Nat}
    (hs : s.tableState = .claimed h staged lease n) :
    s.loseClaim =
      { s with tableState := .free }.setPort h
        { s.port h with latched := { (s.port h).latched with claimLost := true } } := by
  simp only [State.loseClaim, hs]
  rfl

/-! ### Overlaps of the staged table (R48, R50) -/

/-- The eight indices are all there are. -/
theorem mem_allIndices (j : Index) : j ∈ allIndices := by revert j; decide

/-- In a valid table, lo to hi - 1 overlaps when one of its blocks belongs to a defined record other than i. -/
theorem Table.overlaps_iff {t : Table} (valid : t.valid = true) (i : Index) (lo hi : Nat) :
    t.overlaps i lo hi = true ↔
      ∃ b, lo ≤ b ∧ b < hi ∧ ∃ (j : Index) (x : Partition),
        j ≠ i ∧ t.records[j] = some x ∧ x.firstBlock ≤ b ∧ b < x.firstBlock + x.blockCount := by
  simp only [Table.overlaps, List.any_eq_true, Bool.and_eq_true, decide_eq_true_eq]
  constructor
  · rintro ⟨j, -, other, found⟩
    have ok := List.all_eq_true.mp valid j (mem_allIndices j)
    cases h : t.records[j] with
    | none => simp [Record.hasBlockIn, h] at found
    | some x =>
      simp [Record.hasBlockIn, h] at found
      simp [Table.recordValid, Partition.inRange, h] at ok
      exact ⟨max lo x.firstBlock, by omega, by omega, j, x, other, h, by omega, by omega⟩
  · rintro ⟨b, above, below, j, x, other, h, first, last⟩
    refine ⟨j, mem_allIndices j, other, ?_⟩
    simp only [Record.hasBlockIn, h, Bool.and_eq_true, decide_eq_true_eq]
    omega

/-! ### The table fault (R28) -/

/-- A table fault leaves the live table, the current slot and the array. -/
theorem State.tableFault_frame (s : State) (p : Port) (cmd : QueuedCommand) (removed : Bool) :
    (s.tableFault p cmd removed).live = s.live ∧ (s.tableFault p cmd removed).currentSlot = s.currentSlot ∧
      (s.tableFault p cmd removed).array = s.array ∧ (s.tableFault p cmd removed).openSets = s.openSets ∧
      (s.tableFault p cmd removed).counts = s.counts := by
  cases removed
  · simp only [State.tableFault, Bool.false_eq_true, if_false, State.live_finish, State.currentSlot_finish,
      State.array_finish, State.openSets_finish, State.counts_finish]
    cases cmd with
    | commit =>
      cases h : s.tableState <;> simp [State.leaveTableState, h]
    | _ => exact ⟨rfl, rfl, rfl, rfl, rfl⟩
  · exact ⟨rfl, rfl, rfl, rfl, rfl⟩

end Sys2Proof.Machine
end

