-- ==== Sys2Proof/Tests/Slice0.lean ====
section
/-! SUPPORT. The tests of the model: the well-formedness check, the ISSUE words written out from the spec's layout, one
small step for the rows, and for every obligation with hypotheses a state and operands that meet them. -/

namespace Sys2Proof.Tests

open Sys2Proof.Machine

/-! ### Small states -/

def keyOf (n : Nat) : Key := Vector.replicate 16 (BitVec.ofNat 8 n)

def onlyA : PortSet := PortSet.single .a

def onlyB : PortSet := PortSet.single .b

/-- A record with writer A. -/
def ofA (first count : Nat) (lock : Option KeyLock) : Partition :=
  { firstBlock := first, blockCount := count, writer := some .a, readers := onlyB, lock := lock }

/-- A record with no writer and reader A. -/
def readOnly : Partition := { firstBlock := 8, blockCount := 2, writer := none, readers := onlyA, lock := none }

def standardLock : KeyLock := { key := keyOf 1, mode := .standard }

def strictLock : KeyLock := { key := keyOf 1, mode := .strict }

/-- Unkeyed, keyed standard, keyed strict and without a writer; the others undefined. -/
def table : Table :=
  { generation := 5, recovery := some (keyOf 2),
    records := #v[some (ofA 2 2 none), some (ofA 4 1 (some standardLock)), some (ofA 6 1 (some strictLock)),
      some readOnly, none, none, none, none] }

/-- READY, with a live table and nothing going on. -/
def ready : State := { State.cleared with part := .ready, live := table }

def withParams (s : State) (p : Port) (l : List Nat) : State :=
  s.updPort p fun u => { u with params := Vector.ofFn fun k => BitVec.ofNat 16 (l.getD k.val 0) }

/-- A frame of port C at a location. -/
def framed (s : State) (reading : Bool) (loc : Nat) : State :=
  { s with frame := some { void := false, reading := reading, loc := loc, half := none }, selected := true }

def entry (tag : Byte) (cmd : QueuedCommand) : Entry := { tag := tag, cmd := cmd, active := none }

def running (cmd : QueuedCommand) (pr : Progress) (abortPending : Bool) : Entry :=
  { tag := 1, cmd := cmd, active := some { progress := pr, abortPending := abortPending } }

/-- Port A with one command in its queue, not started. -/
def queuedAtA (s : State) (cmd : QueuedCommand) : State := s.updPort .a fun u => { u with queue := [entry 1 cmd] }

/-- Port A with an ACTIVE command and its buffers. -/
def activeAtA (s : State) (cmd : QueuedCommand) (pr : Progress) (abortPending : Bool) (bufs : List Buffer) : State :=
  s.updPort .a fun u => { u with queue := [running cmd pr abortPending], reserved := 1, transfers := bufs }

def inFlightOfA (s : State) (cmd : QueuedCommand) (removed : Bool) (w : Work) : State :=
  { s with inFlight := some (.segment { port := .a, cmd := cmd, removed := removed, work := w }) }

def buffer (st : BufferState) (b : Byte) : Buffer :=
  { state := st, data := [b, b], sector := some 0, blankMark := false }

def readStart : ReadProgress :=
  { nextSector := 1, sectorsRead := 0, readingClosed := false, failAt := none, sectorsDone := 0, blankMet := 0,
    genStart := 0 }

/-- A READ of two sectors with its first sector read in flight. -/
def reading : State :=
  inFlightOfA (activeAtA ready (.read 0 0 2) (.read readStart) false [buffer .inArray 0]) (.read 0 0 2) false
    (.readSector 32)

def writeStart : WriteProgress := { nextSector := 0, sectorsDone := 0, failAt := none }

def claimedBy (p : Port) : State := { ready with tableState := .claimed p table 2 3 }

def committingBy (p : Port) : State := { ready with tableState := .committing p table 2 }

/-- The outcome is the next state given. -/
def gives (o : Host.Outcome State Fault Refusal) (t : State) : Bool :=
  match o with
  | .next u => decide (u = t)
  | .fault _ => false
  | .refused _ => false

/-- The outcome is a next state with a property. -/
def givesSome (o : Host.Outcome State Fault Refusal) (f : State → Bool) : Bool :=
  match o with
  | .next u => f u
  | .fault _ => false
  | .refused _ => false

/-- The status of port A's newest record. -/
def lastStatus (s : State) : Option Status := (s.port .a).completions.getLast?.map Completion.status

/-- The answer code of a port. -/
def code (s : State) (p : Port) : Word := (s.port p).answers[0]

/-! ### Well-formedness -/

theorem test_badCommandWithAKnownCodeIsIllFormed :
    (Instr.badCommand .a 0x0142).wf = false ∧ (Instr.badCommand .b 0x0A00).wf = false ∧
      (Instr.badCommand .c 0x1000).wf = false ∧ (Instr.badCommand .a 0x1EFF).wf = false := by decide

theorem test_badCommandWithAnotherCodeIsWellFormed :
    (Instr.badCommand .a 0x0042).wf = true ∧ (Instr.badCommand .b 0x0B00).wf = true ∧
      (Instr.badCommand .c 0x0F00).wf = true ∧ (Instr.badCommand .a 0x1F00).wf = true ∧
      (Instr.badCommand .a 0xFFFF).wf = true := by decide

theorem test_registerWriteOfALocationWithABehaviourIsIllFormed :
    (Instr.registerWrite .a 0 7).wf = false ∧ (Instr.registerWrite .b 21 7).wf = false ∧
      (Instr.registerWrite .c 22 7).wf = false ∧ (Instr.registerWrite .a 23 7).wf = false := by decide

theorem test_registerWriteOfAnotherLocationIsWellFormed :
    (Instr.registerWrite .a 1 7).wf = true ∧ (Instr.registerWrite .b 12 7).wf = true ∧
      (Instr.registerWrite .c 20 7).wf = true ∧ (Instr.registerWrite .a 31 7).wf = true := by decide

/-! ### ISSUE words (R176, R177) -/

/-- Tag in bits 0 to 7, command code in bits 8 to 15: the queued commands. -/
theorem test_queuedIssueWords :
    decodeIssue .a 0 0x0142 = .read .a 0x42 ∧ decodeIssue .b 0 0x02FF = .check .b 0xFF ∧
      decodeIssue .c 0 0x0300 = .write .c 0 ∧ decodeIssue .a 0 0x0401 = .blank .a 1 ∧
      decodeIssue .a 0 0x0580 = .wipe .a 0x80 ∧ decodeIssue .a 0 0x0607 = .commit .a 7 ∧
      decodeIssue .a 0 0x0708 = .openKey .a 8 ∧ decodeIssue .a 0 0x0809 = .setKey .a 9 ∧
      decodeIssue .a 0 0x090A = .clearKey .a 10 ∧ decodeIssue .a 0 0x0A0B = .setRecovery .a 11 := by decide

/-- The immediate commands, whatever the tag; INFO by its selector. -/
theorem test_immediateIssueWords :
    decodeIssue .a 0 0x1055 = .claim .a ∧ decodeIssue .a 0 0x1100 = .discard .a ∧ decodeIssue .a 0 0x1200 = .define .a ∧
      decodeIssue .a 0 0x1300 = .delete .a ∧ decodeIssue .a 0 0x1400 = .resize .a ∧
      decodeIssue .a 0 0x1500 = .modify .a ∧ decodeIssue .a 0 0x1600 = .close .a ∧ decodeIssue .a 0 0x1700 = .hold .a ∧
      decodeIssue .a 0 0x1800 = .stageKey .a ∧ decodeIssue .a 0 0x1900 = .abort .a ∧ decodeIssue .a 0 0x1A00 = .pop .a ∧
      decodeIssue .a 0 0x1B00 = .watch .a ∧ decodeIssue .a 0 0x1CFF = .notices .a ∧
      decodeIssue .a 8 0x1D00 = .infoPart .a ∧ decodeIssue .a 7 0x1D00 = .infoPartition .a ∧
      decodeIssue .a 0 0x1E00 = .setup .a := by decide

theorem test_otherIssueWords :
    decodeIssue .a 0 0x0000 = .badCommand .a 0x0000 ∧ decodeIssue .a 0 0x0B12 = .badCommand .a 0x0B12 ∧
      decodeIssue .a 0 0x1F00 = .badCommand .a 0x1F00 := by decide

/-! ### The rows, one step each -/

theorem test_issuesAreAccepted :
    gives (exec (.read .a 1) (withParams ready .a [7, 16351, 256]))
        ((withParams ready .a [7, 16351, 256]).enqueued .a 1 (.read 7 16351 256) none) = true ∧
      gives (exec (.blank .a 1) (withParams ready .a [7, 1021, 1022]))
        ((withParams ready .a [7, 1021, 1022]).enqueued .a 1 (.blank 7 1021 1022) none) = true := by decide

theorem test_setRecoveryTakesTheStage :
    givesSome (exec (.setRecovery .a 1) (ready.updPort .a fun u => { u with keyStage := some (keyOf 2) })) (fun t =>
      decide ((t.port .a).queue = [entry 1 (.setRecovery (keyOf 0) (some (keyOf 2)))]) &&
        decide ((t.port .a).keyStage = none)) = true := by decide

theorem test_badCommandAnswers : givesSome (exec (.badCommand .a 0x0F00) ready) (fun t => code t .a == 0x22) = true := by
  decide

theorem test_claimTakesTheFreeTable :
    givesSome (exec (.claim .a) (withParams ready .a [20])) (fun t =>
      decide (t.tableState = .claimed .a table 20 0) && code t .a == 0x20 && (t.port .a).answers[1] == 5) = true := by
  decide

theorem test_defineAtTheLastBlocks :
    givesSome (exec (.define .a) (withParams (claimedBy .a) .a [7, 1023, 1, 1, 6])) (fun t => code t .a == 0x20) = true ∧
      givesSome (exec (.define .a) (withParams (claimedBy .a) .a [7, 1023, 2, 1, 6])) (fun t => code t .a == 0x25) = true ∧
      givesSome (exec (.define .a) (withParams (claimedBy .a) .a [7, 7, 2, 1, 6])) (fun t => code t .a == 0x28) = true := by
  decide

theorem test_editsOfTheStagedTable :
    givesSome (exec (.delete .a) (withParams (claimedBy .a) .a [0])) (fun t => code t .a == 0x20) = true ∧
      givesSome (exec (.resize .a) (withParams (claimedBy .a) .a [2, 2])) (fun t => code t .a == 0x20) = true ∧
      givesSome (exec (.resize .a) (withParams (claimedBy .a) .a [2, 3])) (fun t => code t .a == 0x28) = true ∧
      givesSome (exec (.modify .a) (withParams (claimedBy .a) .a [0, 0, 7])) (fun t => code t .a == 0x20) = true ∧
      givesSome (exec (.modify .a) (withParams (claimedBy .a) .a [0, 1, 1])) (fun t => code t .a == 0x25) = true := by
  decide

theorem test_readBecomesActive :
    givesSome (exec (.commandStart .a) (queuedAtA ready (.read 0 0 2))) (fun t =>
      decide ((t.port .a).activeEntry.isSome) && (t.port .a).reserved == 1) = true := by decide

theorem test_grantTakesABuffer :
    givesSome (exec .segmentGrant (activeAtA ready (.read 0 0 2) (.read { readStart with nextSector := 0 }) false [])) (fun t =>
      decide (t.inFlight = some (.segment { port := .a, cmd := .read 0 0 2, removed := false, work := .readSector 32 })) &&
        decide ((t.port .a).transfers.map Buffer.state = [.inArray])) = true := by decide

set_option maxRecDepth 4000 in
theorem test_blankSectorReadsAsOnes :
    givesSome (exec .readSectorReadEnd reading) (fun t =>
      decide ((t.port .a).transfers.map Buffer.state = [.ready]) &&
        decide ((t.port .a).transfers.map (fun b => b.data.getD 511 0) = [0xFF])) = true := by decide

theorem test_damagedSectorEndsTheRead :
    givesSome (exec .readSectorReadEnd { reading with array := [(32, .damaged)] }) (fun t =>
      decide (lastStatus t = some .unreadable) && decide ((t.port .a).queue = [])) = true := by decide

/-- Writing the last sector of a WRITE: OK, with the count raised. -/
theorem test_writeCompletes :
    givesSome
        (exec (.writeProgramEnd true)
          (inFlightOfA (activeAtA ready (.write 0 0 1) (.write writeStart) false [buffer .inArray 9]) (.write 0 0 1) false
            (.programSector 32 [9, 9])))
        (fun t =>
          decide (lastStatus t = some .ok) && t.counts[0] == 1 &&
            decide (readSector t.array 32 = .data (.bytes [9, 9]))) = true := by decide

theorem test_writeOfAWrittenSectorIsNotBlank :
    givesSome
        (exec (.writeProgramEnd true)
          { inFlightOfA (activeAtA ready (.write 0 0 1) (.write writeStart) false [buffer .inArray 9]) (.write 0 0 1) false
              (.programSector 32 [9, 9]) with array := [(32, .damaged)] })
        (fun t => decide (lastStatus t = some .notBlank) && t.counts[0] == 0) = true := by decide

/-- A claim of two steps whose lease timer has counted them. -/
def lapsed (p : Port) : State := { ready with tableState := .claimed p table 2 20 }

theorem test_leaseExpiryDropsTheClaim :
    givesSome (exec .leaseExpiry (lapsed .b)) (fun t =>
      decide (t.tableState = .free) && (t.port .b).latched.claimLost) = true := by decide

/-- With no command waiting, the expiry that is due takes place. -/
theorem test_idleStepTakesADueExpiry : gives (step (lapsed .b)) (lapsed .b).loseClaim = true := by decide

/-- A renewal taken before the expiry: no expiry at this time (R44). -/
theorem test_renewedLeaseDoesNotExpire :
    givesSome (exec (.claim .b) (withParams (lapsed .b) .b [2])) (fun t =>
      decide (t.tableState = .claimed .b table 2 0) && gives (exec .leaseExpiry t) t) = true := by decide

/-- After the load two starts are due at once, and no grant is prompt before both (R72). -/
theorem test_startsAreJudgedTogether :
    let s := (queuedAtA ready .commit).updPort .c fun u => { u with queue := [entry 1 (.blank 0 0 1)] }
    { s with pending := [.commandStart .a] }.prompt = true ∧ { s with pending := [.commandStart .c] }.prompt = true ∧
      { s with pending := [.segmentGrant] }.prompt = false := by decide

theorem test_portResetOfAReader :
    givesSome (exec (.portReset .a) reading) (fun t =>
      decide ((t.port .a).queue = []) && decide ((t.port .a).transfers.map Buffer.state = [.inArray]) &&
        t.removedSegment .a && (t.port .a).prst) = true := by decide

/-- In a write frame of port C the second byte of a word is its low byte. -/
theorem test_frameWritesAParameter :
    givesSome
        (exec (.frameByte 0x34)
          { ready with frame := some { void := false, reading := false, loc := 1, half := some 0x12 } })
        (fun t => (t.port .c).params[0] == 0x1234 && decide (t.frame.map Frame.loc = some 2)) = true := by decide

/-- After a reset has ended a frame, its further bytes make no access, until chip select has been negated (R174). -/
theorem test_bytesAfterAResetOpenNoFrame :
    givesSome (exec (.portReset .c) (framed ready false 1)) (fun t =>
      decide (t.frame = none) && t.selected &&
        givesSome (exec (.portResetRelease .c) t) (fun u =>
          gives (exec (.frameByte 0x01) u) u &&
            givesSome (exec .frameEnd u) (fun v =>
              givesSome (exec (.frameByte 0x01) v) (fun w => decide (w.frame.map Frame.loc = some 1))))) = true := by
  decide

/-- A part as delivered: the load ends with the empty table and slot 1, and the part is READY. -/
theorem test_loadOfABlankArray :
    givesSome (exec .loadReadEnd { State.reset with inFlight := some (.load [.blank, .blank, .blank]) }) (fun t =>
      decide (t.part = .ready) && decide (t.live = Table.empty) && decide (t.currentSlot = 1)) = true := by decide

/-! ### Witnesses: a state and operands that meet an obligation's hypotheses -/

theorem witness_StepRunsTheFrontCommand : ({ ready with pending := [.frameEnd] }).pending = [.frameEnd] := by decide

/-- An idle part with the lease, the standby timer and a stall timer running. -/
def idling : State :=
  { ((claimedBy .b).updPort .a fun u => { u with stallSetting := 3, stallTimer := some 2 }).mapPorts
      fun _ u => { u with vote := 1 } with
    standbyTimer := some 9 }

/-- An ACTIVE WRITE at a port that waits on its own data, with its stall timer at a count. -/
def stalling (p : Port) (n : Nat) : State :=
  ready.updPort p fun u =>
    { u with queue := [running (.write 0 0 2) (.write { nextSector := 0, sectorsDone := 0, failAt := none }) false],
             reserved := 1, stallSetting := 3, stallTimer := some n }

theorem witness_IdleStepCountsTheTimers :
    (idling.pending = [] ∧ idling.tableState = .claimed .b table 2 3 ∧ ready.pending = [] ∧ ready.tableState = .free) ∧
      (idling.standbyDue = false ∧ idling.leaseDue = false ∧ (∀ p ∈ [Port.a, .b, .c], idling.stallDue p = false)) ∧
      ({ idling with standbyTimer := some 10 }.standbyDue = true ∧ (lapsed .b).standbyDue = false ∧
        (lapsed .b).leaseDue = true) ∧
      ∀ p ∈ [Port.a, .b, .c], (stalling p 3).stallDue p = true ∧ (stalling p 2).stallDue p = false ∧
        (stalling p 3).standbyDue = false ∧ (stalling p 3).leaseDue = false ∧
        (∀ q ∈ [Port.a, .b, .c], q ≠ p → (stalling p 3).stallDue q = false) := by decide

theorem witness_EveryCommandHasANextState :
    (Instr.frameEnd ≠ .segmentGrant) ∧
      (match exec .segmentGrant
        (activeAtA
          { ready with live := { table with records := table.records.set 0 (some (ofA 1024 1 none)) } }
          (.blank 0 0 1) (.blank { nextBlock := 0, blocksDone := 0 }) false []) with
       | .fault .noSuchSector => true
       | _ => false) = true := by decide

/-- Every law at once, in a state where a READ's segment is in flight, and a step from it. -/
def busy : State := { reading with pending := [.readSectorReadEnd] }

theorem witness_EveryLawHoldsWhileBusy :
    (Memory.wf busy.array = true ∧ busy.atPorts PortUnit.queueLaw = true ∧ busy.atPorts PortUnit.completionLaw = true ∧
        busy.atPorts PortUnit.noticeLaw = true ∧ busy.atPorts PortUnit.figuresLaw = true ∧ busy.poolLaw = true) ∧
      (busy.tablesValid = true ∧ busy.leaseLaw = true ∧ busy.openLaw = true ∧ busy.loadingLaw = true ∧
        busy.flightLaw = true ∧ busy.ownerLaw = true ∧ busy.jobLaw = true ∧ busy.timersFollow = true ∧
        busy.progressLaw = true ∧ ∀ p ∈ [Port.a, .b, .c], busy.listLaw p = true) := by decide

/-- The laws of a grant that cannot fault, with a READ whose next segment waits and one whose segment is in flight. -/
theorem witness_GrantsStayInside :
    (let s := activeAtA ready (.read 0 31 1) (.read { readStart with nextSector := 31 }) false []
     s.tablesValid = true ∧ s.progressLaw = true ∧ (s.nextWork .a).map (fun x => x.2.2) = some (.readSector 63)) ∧
      busy.tablesValid = true ∧ busy.progressLaw = true := by decide

set_option maxRecDepth 4000 in
theorem witness_StepOfBusyHasANextState : givesSome (step busy) (fun t => decide (t.inFlight = none)) = true := by decide

theorem witness_DataIssuesAreAccepted :
    let s := withParams ready .a [7, 16351, 256]
    let t := framed (withParams ready .c [0, 1021, 1022]) false 0
    (s.accessMade .a false 0 = true ∧ (s.port .a).queue.length < 4 ∧ (∀ e ∈ (s.port .a).queue, e.tag ≠ 1) ∧
      (s.port .a).params[0].toNat = 7 ∧ (s.port .a).params[1].toNat = 16351 ∧ (s.port .a).params[2].toNat = 256) ∧
      (t.accessMade .c false 0 = true ∧ (t.port .c).params[0].toNat = 0 ∧ (t.port .c).params[1].toNat = 1021 ∧
        (t.port .c).params[2].toNat = 1022) := by decide

theorem witness_keyGiven : (ready.port .a).keyGiven (keyOf 0) := by
  intro k
  exact ⟨by revert k; decide, by revert k; decide⟩

theorem witness_TableAndKeyIssuesAreAccepted :
    ready.accessMade .a false 0 = true ∧ (ready.port .a).queue.length < 4 ∧
      (∀ e ∈ (ready.port .a).queue, e.tag ≠ 1) ∧ (ready.port .a).params[0].toNat = (0 : Index).val ∧
      (ready.port .a).params[1].toNat = 0 ∧ ((withParams ready .a [7, 1]).port .a).params[1].toNat = 1 := by decide

theorem witness_namesWhich : namesWhich 0 .partition ∧ namesWhich 1 .recovery := ⟨rfl, rfl⟩

/-- Port A with four entries. -/
def full : State :=
  ready.updPort .a fun u => { u with queue := [entry 1 .commit, entry 2 .commit, entry 3 .commit, entry 4 .commit] }

theorem witness_IssuesAreRefusedInOrder :
    ready.accessMade .a false 0 = true ∧ (Instr.badCommand .a 0x0B00).wf = true ∧
      full.accessMade .a false 0 = true ∧ 4 ≤ (full.port .a).queue.length ∧
      (let s := queuedAtA ready .commit
       (s.port .a).queue.length < 4 ∧ ∃ e ∈ (s.port .a).queue, e.tag = 1) ∧
      7 < ((withParams ready .a [8]).port .a).params[0].toNat ∧
      16351 < ((withParams ready .a [7, 16352, 1]).port .a).params[1].toNat ∧
      256 < ((withParams ready .a [7, 0, 257]).port .a).params[2].toNat ∧
      1021 < ((withParams ready .a [7, 1022, 1]).port .a).params[1].toNat ∧
      1022 < ((withParams ready .a [7, 0, 1023]).port .a).params[2].toNat ∧
      1 < ((withParams ready .a [7, 2]).port .a).params[1].toNat ∧ (ready.port .a).params[2].toNat < 1 := by decide

theorem witness_IssueWordsReadBack :
    (Instr.badCommand .a 0x0B12).wf = true ∧ encodeIssue (.badCommand .a 0x0B12) = some (.a, 0x0B12) ∧
      encodeIssue (.read .c 0xFF) = some (.c, 0x01FF) ∧ encodeIssue (.infoPart .b) = some (.b, 0x1D00) := by decide

theorem witness_RegisterWritesStoreParameters :
    ready.accessMade .a false 1 = true ∧ (framed ready false 12).accessMade .c false 12 = true ∧
      ready.accessMade .b false 13 = true ∧ ready.accessMade .b false 20 = true ∧ ready.accessMade .b false 24 = true ∧
      ready.accessMade .b false 31 = true ∧
      ((ready.updPort .a fun u => { u with prst := true }).port .a).prst = true ∧
      ({ ready with resetLine := true }).resetLine = true := by decide

theorem witness_EventWritesActOnTheirOwnBits :
    ready.accessMade .a false 22 = true ∧ (framed ready false 23).accessMade .c false 23 = true := by decide

theorem witness_OutputsFollowTheState :
    (ready.takesAccess .a = true ∧ ready.takesAccess .c = true ∧ (ready.port .a).queue.length ≤ 4 ∧
        (ready.port .a).completions.length ≤ 8) ∧
      { ready with resetLine := true }.takesAccess .a = false ∧ (ready.port .a).activeEntry = none := by decide

theorem witness_ClaimAnswersInOrder :
    (State.reset.accessMade .a false 0 = true ∧ State.reset.part = .loading) ∧
      ((withParams ready .a [256]).port .a).params[0].toNat = 256 ∧ (ready.port .a).params[0].toNat = 0 ∧
      ((withParams ready .a [255]).port .a).params[0].toNat = 255 ∧ ({ ready with held := true }).held = true ∧
      ready.held = false ∧ ready.tableState = .free ∧ (claimedBy .a).tableState = .claimed .a table 2 3 ∧
      (Port.b ≠ .a ∧ (claimedBy .b).tableState = .claimed .b table 2 3) ∧
      (committingBy .b).tableState = .committing .b table 2 := by decide

theorem witness_namesPort : namesPort 2 (some .b) ∧ namesPort 0 none ∧ namesPort 1 (some .a) ∧ namesPort 3 (some .c) :=
  ⟨rfl, rfl, rfl, rfl⟩

/-- The claim is another's, or there is none: the third case of DISCARD and of the edits' gate. -/
theorem witness_notTheHolder :
    (∀ staged lease t, (claimedBy .b).tableState ≠ .claimed .a staged lease t) ∧
      (∀ staged lease, (claimedBy .b).tableState ≠ .committing .a staged lease) :=
  ⟨fun _ _ _ h => by injection h with h; exact absurd h (by decide), fun _ _ h => by injection h⟩

theorem witness_DiscardAndTheGate :
    State.reset.accessMade .a false 0 = true ∧ State.reset.part = .loading ∧
      (claimedBy .a).accessMade .a false 0 = true ∧ (claimedBy .a).part = .ready ∧
      (claimedBy .a).tableState = .claimed .a table 2 3 ∧ (committingBy .a).accessMade .a false 0 = true ∧
      (committingBy .a).part = .ready ∧ (committingBy .a).tableState = .committing .a table 2 := by decide

/-- Port A, the holder, with parameters for an edit. -/
def editing (l : List Nat) : State := withParams (claimedBy .a) .a l

theorem witness_DefineTestsInOrder :
    (∀ l ∈ [[8, 0, 0, 0, 0], [7, 1023, 1, 1, 6], [7, 1023, 2, 1, 6], [0, 2, 1, 0, 0], [7, 2, 1022, 3, 0]],
        (editing l).accessMade .a false 0 = true ∧ (editing l).part = .ready ∧
          (editing l).tableState = .claimed .a table 2 3 ∧
          ((editing l).port .a).params[0].toNat = l.getD 0 0 ∧ ((editing l).port .a).params[1].toNat = l.getD 1 0 ∧
          ((editing l).port .a).params[2].toNat = l.getD 2 0 ∧ ((editing l).port .a).params[3].toNat = l.getD 3 0 ∧
          ((editing l).port .a).params[4].toNat = l.getD 4 0) ∧
      table.records[(7 : Index)] = none ∧ table.records[(0 : Index)] = some (ofA 2 2 none) := by decide

theorem noOtherHoldsBlock3 :
    ∀ k : Index, k ≠ 0 → (table.records[k]).all (fun y =>
      !(decide (y.firstBlock ≤ 3) && decide (3 < y.firstBlock + y.blockCount))) = true := by decide

theorem witness_DefineOperands :
    namesPortSet 6 { a := false, b := true, c := true } ∧ ¬ amongReaders (some .a) { a := false, b := true, c := true } ∧
      amongReaders (some .a) onlyA ∧ table.blockTaken 7 3 ∧ ¬ table.blockTaken 0 3 := by
  refine ⟨⟨by decide, by decide⟩, ?_, ⟨.a, rfl, rfl⟩, ⟨0, ofA 2 2 none, by decide, by decide, by decide, by decide⟩, ?_⟩
  · rintro ⟨p, h, g⟩
    obtain rfl := Option.some.inj h
    exact absurd g (by decide)
  · rintro ⟨j, x, h, e, lo, hi⟩
    have at_j := noOtherHoldsBlock3 j h
    rw [e] at at_j
    simp [lo, hi] at at_j

theorem witness_DeleteResizeModifyTestInOrder :
    (∀ l ∈ [[8, 0, 0], [0, 2, 6], [0, 1022, 0], [0, 1023, 0], [2, 2, 0], [2, 3, 0], [7, 0, 0], [0, 0, 7], [0, 4, 8]],
        (editing l).accessMade .a false 0 = true ∧ (editing l).part = .ready ∧
          (editing l).tableState = .claimed .a table 2 3 ∧
          ((editing l).port .a).params[0].toNat = l.getD 0 0 ∧ ((editing l).port .a).params[1].toNat = l.getD 1 0 ∧
          ((editing l).port .a).params[2].toNat = l.getD 2 0) ∧
      table.records[(7 : Index)] = none ∧ table.records[(2 : Index)] = some (ofA 6 1 (some strictLock)) := by decide

theorem witness_ResizeOverlaps : table.blockTaken 2 8 ∧ 6 + 1 ≤ 8 ∧ 8 < 6 + 3 :=
  ⟨⟨3, readOnly, by decide, by decide, by decide, by decide⟩, by decide, by decide⟩

theorem notTaken_of_noneHolds {b : Nat}
    (free : ∀ k : Index, (table.records[k]).all (fun y =>
      !(decide (y.firstBlock ≤ b) && decide (b < y.firstBlock + y.blockCount))) = true) (i : Index) :
    ¬ table.blockTaken i b := by
  rintro ⟨j, x, -, e, lo, hi⟩
  have at_j := free j
  rw [e] at at_j
  simp [lo, hi] at at_j

/-- The staged table is valid, and block 1023 of a DEFINE and block 7 that a RESIZE of record 2 adds are free. -/
theorem witness_EditsAreTakenInAValidTable :
    (editing [7, 1023, 1, 1, 6]).tablesValid = true ∧ (editing [2, 2, 0]).tablesValid = true ∧
      (∀ i, ¬ table.blockTaken i 1023) ∧ ∀ i, ¬ table.blockTaken i 7 :=
  ⟨by decide, by decide, notTaken_of_noneHolds (by decide), notTaken_of_noneHolds (by decide)⟩

/-- Table edits of the holder: DELETE, RESIZE and MODIFY of a defined record and DEFINE of an undefined one are taken. -/
theorem test_EditsAreTaken :
    ∀ x ∈ [(Instr.define .a, [7, 1023, 1, 1, 6]), (.resize .a, [2, 2, 0]), (.delete .a, [0]), (.modify .a, [0, 1, 6])],
      givesSome (exec x.1 (editing x.2)) (fun t => decide ((t.port .a).answers[0] = 0x20)) = true := by decide

theorem witness_HoldIsTakenInFree :
    State.reset.accessMade .a false 0 = true ∧ State.reset.part = .loading ∧ ready.accessMade .a false 0 = true ∧
      ready.part = .ready ∧ ready.held = false ∧ ready.tableState = .free ∧ ({ ready with held := true }).held = true ∧
      (claimedBy .b).held = false ∧ (claimedBy .b).tableState ≠ .free := by decide

theorem witness_CloseLeavesTheOpenSet :
    ready.accessMade .a false 0 = true ∧ 7 < ((withParams ready .a [8]).port .a).params[0].toNat ∧
      ((withParams ready .a [7]).port .a).params[0].toNat = (7 : Index).val := by decide

theorem witness_AbortRemovesAQueuedEntry :
    255 < ((withParams full .a [256]).port .a).params[0].toNat ∧
      ((withParams full .a [255]).port .a).params[0].toNat ≤ 255 ∧
      (∀ e ∈ ((withParams full .a [255]).port .a).queue, e.tag.toNat ≠ 255) ∧
      (full.port .a).queue = [entry 1 .commit] ++ entry 2 .commit :: [entry 3 .commit, entry 4 .commit] ∧
      (entry 2 .commit).active = none ∧ (entry 2 .commit).tag.toNat = ((withParams full .a [2]).port .a).params[0].toNat ∧
      (∀ x ∈ [entry 1 .commit], x.tag ≠ (entry 2 .commit).tag) := by decide

theorem witness_AbortEndsTheActiveEntry :
    (let s := withParams reading .a [1]
     s.accessMade .a false 0 = true ∧
      (s.port .a).activeEntry =
        some (running (.read 0 0 2) (.read readStart) false, { progress := .read readStart, abortPending := false }) ∧
      (1 : Byte).toNat = (s.port .a).params[0].toNat ∧ s.ownSegment .a = true) ∧
      (running (.read 0 0 2) (.read readStart) false).cmd = .read 0 0 2 ∧
      (activeAtA (committingBy .a) .commit (.job true) false []).ownSegment .a = false := by decide

theorem witness_PopGivesTheOldestRecord :
    (ready.port .a).completions = [] ∧ ready.accessMade .a false 0 = true ∧
      ((ready.updPort .a fun u => { u with completions := [Completion.bare 1 6 .ok] }).port .a).completions =
        Completion.bare 1 6 .ok :: [] := by decide

theorem witness_RecordsAreLaidOut :
    ∀ k ∈ [1, 2, 3, 4, 5, 6, 7, 8, 9, 10], (Completion.bare 1 k .ok).code < 32 := by decide

theorem witness_WatchAndNoticesActOnTheirSets :
    ready.accessMade .a false 0 = true ∧ State.reset.part = .loading ∧ ready.part = .ready ∧
      255 < ((withParams ready .a [256]).port .a).params[0].toNat ∧
      ((withParams ready .a [255]).port .a).params[0].toNat ≤ 255 := by decide

theorem witness_InfoAnswersItsRecord :
    ((withParams ready .a [8]).port .a).params[0].toNat = 8 ∧
      8 < ((withParams ready .a [9]).port .a).params[0].toNat ∧
      ((withParams ready .a [7]).port .a).params[0].toNat = (7 : Index).val ∧ ready.part = .ready ∧
      (claimedBy .a).tableState = .claimed .a table 2 3 ∧ (committingBy .a).tableState = .committing .a table 2 ∧
      table.records[(7 : Index)] = none ∧ table.records[(0 : Index)] = some (ofA 2 2 none) := by decide

theorem witness_emptyOpenSet : namesPortSet 0 ready.openSets[(0 : Index)] := ⟨by decide, by decide⟩

/-- Port B holds all the buffers but those that A and C are guaranteed. -/
def crowded : State :=
  ready.updPort .b fun u => { u with transfers := List.replicate 20 (buffer .full 0) }

theorem witness_SetupTakesAllFiveOrNone :
    (let s := withParams ready .a [512, 255, 255, 4, 12]
     ((∃ p ∈ [Port.a, .b, .c], (s.port p).vote = 0) ∧ ∀ p ∈ [Port.a, .b, .c], (idling.port p).vote ≠ 0) ∧
      s.accessMade .a false 0 = true ∧ (s.port .a).params[0].toNat = 512 ∧ (s.port .a).params[1].toNat = 255 ∧
      (s.port .a).params[2].toNat = 255 ∧ (s.port .a).params[3].toNat = 4 ∧ (s.port .a).params[4].toNat = 12 ∧
      (4 - (s.port .a).holding) + s.othersUnmet .a ≤ s.freeCount) ∧
      crowded.freeCount < (4 - (crowded.port .a).holding) + crowded.othersUnmet .a ∧
      512 ∈ [32, 64, 128, 256, 512] ∧ 511 ∉ [32, 64, 128, 256, 512] := by decide

/-- An ACTIVE WRITE at port A with a FILLING buffer at a window offset. -/
def filling (offset : Nat) : State :=
  (activeAtA ready (.write 0 0 2) (.write writeStart) false [buffer .filling 7]).updPort .a fun u =>
    { u with offset := offset, moved := offset }

/-- An ACTIVE WRITE at port A with no buffer. -/
def unfilled : State := activeAtA ready (.write 0 0 2) (.write writeStart) false []

theorem witness_DataWritesFillOrAreDropped :
    (∀ offset ∈ [2, 508, 510],
        (filling offset).accessMade .a false 21 = true ∧
          ((filling offset).port .a).activeEntry =
            some (running (.write 0 0 2) (.write writeStart) false,
              { progress := .write writeStart, abortPending := false }) ∧
          ((filling offset).port .a).moved < 2 * 512 ∧
          ((filling offset).port .a).transfers = [] ++ [buffer .filling 7]) ∧
      508 + 2 < 512 ∧ 510 + 2 = 512 ∧ (unfilled.port .a).transfers.getLast? = none ∧ unfilled.mayTake .a = true ∧
      (unfilled.updPort .a fun u => { u with limit := 0 }).mayTake .a = false ∧
      (ready.accessMade .a false 21 = true ∧ (ready.port .a).activeEntry = none) := by decide

/-- An ACTIVE READ at port A with one READY buffer at a window offset; reading has closed. -/
def draining (offset : Nat) (closed : Bool) : State :=
  (activeAtA ready (.read 0 0 1) (.read { readStart with sectorsRead := 1, readingClosed := closed }) false
    [buffer .draining 7]).updPort .a fun u => { u with offset := offset }

theorem witness_DataReadsDrainOrAreEmpty :
    (∀ offset ∈ [0, 508, 510],
        (draining offset true).accessMade .a true 21 = true ∧
          (((draining offset true).port .a).activeEntry.map fun x => x.1.cmd) = some (.read 0 0 1) ∧
          (((draining offset true).port .a).activeEntry.map fun x => x.2.abortPending) = some false ∧
          ((draining offset true).port .a).transfers = buffer .draining 7 :: []) ∧
      (draining 510 true).ownSegment .a = false ∧
      (((draining 510 false).port .a).activeEntry.map fun x => x.2.progress) =
        some (.read { readStart with sectorsRead := 1, readingClosed := false }) ∧
      (ready.accessMade .a true 21 = true ∧ (ready.port .a).activeEntry = none) := by decide

theorem witness_startReady (cmd : QueuedCommand) : (queuedAtA ready cmd).startReady .a (entry 1 cmd) [] :=
  ⟨rfl, rfl, rfl, by decide, show 0 + 0 < 8 by decide⟩

/-- The ports and records of the start checks: none, no permission, no writer, locked, out of range. -/
theorem witness_StartChecksFailInOrder :
    ready.live.records[(7 : Index)] = none ∧ ready.live.records[(3 : Index)] = some readOnly ∧
      (readOnly.writer ≠ some .b ∧ readOnly.readers.get .b = false) ∧ readOnly.writer ≠ some .a ∧
      ready.live.records[(1 : Index)] = some (ofA 4 1 (some standardLock)) ∧
      ((ofA 4 1 (some standardLock)).writer = some .a ∧ (ofA 4 1 (some standardLock)).lock ≠ none ∧
        (ready.openSets[(1 : Index)]).get .a = false) ∧
      ready.live.records[(0 : Index)] = some (ofA 2 2 none) ∧ (ofA 2 2 none).lock = none ∧
      (ofA 2 2 none).blockCount * 16 < 0 + 33 ∧ (ofA 2 2 none).blockCount < 0 + 3 := by decide

theorem witness_DataCommandsBecomeActive :
    ready.live.records[(0 : Index)] = some (ofA 2 2 none) ∧ (ofA 2 2 none).lock = none ∧
      (ofA 2 2 none).writer = some .a ∧ 31 + 1 ≤ (ofA 2 2 none).blockCount * 16 ∧
      1 + 1 ≤ (ofA 2 2 none).blockCount := by decide

theorem witness_OpenComparesAndAddsThePort :
    ready.live.records[(0 : Index)] = some (ofA 2 2 none) ∧ (ofA 2 2 none).lock = none ∧
      ready.live.records[(1 : Index)] = some (ofA 4 1 (some standardLock)) ∧
      ready.live.records[(2 : Index)] = some (ofA 6 1 (some strictLock)) ∧ strictLock.mode = .strict ∧
      (ready.port .a).budget ≠ 0 ∧ keyOf 1 = standardLock.key ∧ keyOf 3 ≠ standardLock.key ∧
      ready.live.recovery = some (keyOf 2) ∧ ready.live.recovery ≠ some (keyOf 3) ∧
      ((ready.updPort .a fun u => { u with budget := 0 }).port .a).budget = 0 := by decide

/-- The operands of a table job that compares, one that does not, and one on an unkeyed partition; the table states. -/
theorem witness_TableJobsStartInOrder :
    (ready.live.records[(1 : Index)] = some (ofA 4 1 (some standardLock)) ∧
        (ofA 4 1 (some standardLock)).writer = some .a ∧ (ofA 4 1 (some standardLock)).lock ≠ none ∧
        (ofA 4 1 (some standardLock)).lock.map KeyLock.key = some (keyOf 1) ∧
        (ofA 4 1 (some standardLock)).lock.map KeyLock.mode = some .standard) ∧
      (ready.live.records[(0 : Index)] = some (ofA 2 2 none) ∧ (ofA 2 2 none).lock = none) ∧
      (ready.live.recovery = some (keyOf 2) ∧ ready.live.recovery ≠ some (keyOf 3)) ∧
      ({ ready with held := true }).held = true ∧ ready.held = false ∧ ready.tableState = .free ∧
      (claimedBy .b).tableState = .claimed .b table 2 3 ∧ (committingBy .b).tableState = .committing .b table 2 ∧
      ({ ready with tableState := .updating .b }).tableState = .updating .b ∧ (ready.port .a).budget ≠ 0 := by decide

theorem witness_CommitStartsAtTheHolder :
    (claimedBy .a).tableState = .claimed .a table 2 3 ∧ State.reset.part = .loading ∧ (ready.port .a).queue = [] ∧
      (∃ e ∈ (reading.port .a).queue, e.active ≠ none) ∧
      (let s := ready.updPort .a fun u => { u with completions := List.replicate 8 (Completion.bare 1 6 .ok) }
       8 ≤ (s.port .a).completions.length + (s.port .a).reserved) := by decide

theorem witness_startReadyOfTheHolder : (queuedAtA (claimedBy .a) .commit).startReady .a (entry 1 .commit) [] :=
  ⟨rfl, rfl, rfl, by decide, by decide⟩

/-- A BLANK of port A that waits for its grant. -/
def blanking : State := activeAtA ready (.blank 0 0 2) (.blank { nextBlock := 0, blocksDone := 0 }) false []

theorem witness_GrantsGoRoundRobin :
    (reading.inFlight ≠ none ∧ State.reset.part = .loading ∧ ({ ready with power := .waking }).power ≠ .ready ∧
        ready.eligible .a = false ∧ ready.eligible .b = false ∧ ready.eligible .c = false) ∧
      ({ blanking with pending := [.segmentGrant] }.prompt = true ∧
        { blanking with pending := [.segmentGrant] }.pending = [.segmentGrant]) ∧
      (blanking.inFlight = none ∧ blanking.part = .ready ∧ blanking.power = .ready ∧
        (blanking.nextWork .a).map (fun x => x.2.2) = some (.blankBlock 2) ∧ Port.a = nextPort blanking.lastGranted) ∧
      (Port.a = nextPort (nextPort .b) ∧ blanking.eligible (nextPort .b) = false) := by decide

theorem witness_GrantsPutTheSegmentInFlight :
    (∀ x ∈ [((QueuedCommand.read 0 0 2, Progress.read readStart, []) : QueuedCommand × Progress × List Buffer),
          (.check 0 0 2, .check { nextSector := 0, sectorsDone := 0, blankMet := 0, damagedMet := 0, firstDamaged := none }, []),
          (.write 0 0 2, .write writeStart, [buffer .full 7]),
          (.blank 0 0 2, .blank { nextBlock := 0, blocksDone := 0 }, []),
          (.wipe 0 .partition (keyOf 1), .wipe { nextBlock := 0, blocksDone := 0, tableDue := false }, []),
          (.wipe 0 .partition (keyOf 1), .wipe { nextBlock := 2, blocksDone := 2, tableDue := true }, []),
          (.setKey 0 (keyOf 1) .strict, .job true, []), (.clearKey 1 (keyOf 1), .job true, []),
          (.setRecovery (keyOf 3) (some (keyOf 2)), .job true, []), (.commit, .job true, [])],
        let s := activeAtA (committingBy .a) x.1 x.2.1 false x.2.2
        s.inFlight = none ∧ s.part = .ready ∧ s.power = .ready ∧ s.grantee = some .a ∧
          (s.port .a).activeEntry = some (running x.1 x.2.1 false, { progress := x.2.1, abortPending := false })) ∧
      ready.live.generation ≠ 0xFFFFFFFF ∧
      ({ ready with live := { table with generation := 0xFFFFFFFF } }).live.generation = 0xFFFFFFFF := by decide

/-- At the last generation a SET KEY, a CLEAR KEY, a SET RECOVERY, a WIPE that is all blanked and a COMMIT are granted. -/
theorem witness_RefusedTableSegments :
    ∀ x ∈ [((QueuedCommand.setKey 0 (keyOf 1) .strict, Progress.job true) : QueuedCommand × Progress),
        (.clearKey 1 (keyOf 1), .job true), (.setRecovery (keyOf 3) (some (keyOf 2)), .job true), (.commit, .job true),
        (.wipe 0 .partition (keyOf 1), .wipe { nextBlock := 2, blocksDone := 2, tableDue := true })],
      let s := activeAtA { (committingBy .a) with live := { table with generation := 0xFFFFFFFF } } x.1 x.2 false []
      s.inFlight = none ∧ s.part = .ready ∧ s.power = .ready ∧ s.grantee = some .a ∧
        s.live.generation = 0xFFFFFFFF ∧ s.tableState = .committing .a table 2 ∧
        givesSome (exec .segmentGrant s) (fun t => decide (lastStatus t = some .commitFault)) = true := by decide

/-- A CHECK with its first sector read in flight. -/
def checking (abortPending : Bool) : State :=
  inFlightOfA
    (activeAtA ready (.check 0 0 2)
      (.check { nextSector := 1, sectorsDone := 0, blankMet := 0, damagedMet := 0, firstDamaged := none }) abortPending [])
    (.check 0 0 2) false (.readSector 32)

theorem witness_SectorReadsAreReported :
    reading.inFlight =
        some (.segment { port := .a, cmd := .read 0 0 2, removed := false, work := .readSector 32 }) ∧
      (reading.port .a).activeEntry =
        some (running (.read 0 0 2) (.read readStart) false, { progress := .read readStart, abortPending := false }) ∧
      (reading.port .a).transfers = [] ++ [buffer .inArray 0] ∧ Memory.get reading.array 32 = none ∧
      Memory.get [(32, Sector.damaged)] 32 = some .damaged ∧
      Memory.get [(32, Sector.written (.bytes [7]) 0)] 32 = some (.written (.bytes [7]) 0) ∧
      (inFlightOfA ready (.check 0 0 2) true (.readSector 32)).inFlight =
        some (.segment { port := .a, cmd := .check 0 0 2, removed := true, work := .readSector 32 }) ∧
      (inFlightOfA ready (.read 0 0 2) true (.readSector 32)).inFlight =
        some (.segment { port := .a, cmd := .read 0 0 2, removed := true, work := .readSector 32 }) ∧
      (∀ b, ((checking b).port .a).activeEntry.map (fun x => x.2.abortPending) = some b ∧
        (checking b).inFlight =
          some (.segment { port := .a, cmd := .check 0 0 2, removed := false, work := .readSector 32 })) := by decide

/-- A WRITE with its last program in flight. -/
def writing (removed abortPending : Bool) : State :=
  inFlightOfA (activeAtA ready (.write 0 0 1) (.write writeStart) abortPending [buffer .inArray 9]) (.write 0 0 1) removed
    (.programSector 32 [9, 9])

theorem witness_WriteProgramsAreReported :
    (∀ removed abortPending, (writing removed abortPending).inFlight =
        some (.segment { port := .a, cmd := .write 0 0 1, removed := removed, work := .programSector 32 [9, 9] }) ∧
        ((writing removed abortPending).port .a).activeEntry =
          some (running (.write 0 0 1) (.write writeStart) abortPending,
            { progress := .write writeStart, abortPending := abortPending }) ∧
        ((writing removed abortPending).port .a).transfers = buffer .inArray 9 :: []) ∧
      Memory.get (writing false false).array 32 = none ∧ Memory.get [(32, Sector.damaged)] 32 ≠ none ∧
      writeStart.sectorsDone + 1 = 1 ∧ writeStart.sectorsDone + 1 ≠ 2 := by decide

theorem witness_BlockBlanksAreCounted :
    (let s := inFlightOfA blanking (.blank 0 0 2) false (.blankBlock 2)
     s.inFlight = some (.segment { port := .a, cmd := .blank 0 0 2, removed := false, work := .blankBlock 2 }) ∧
      (s.port .a).activeEntry =
        some (running (.blank 0 0 2) (.blank { nextBlock := 0, blocksDone := 0 }) false,
          { progress := .blank { nextBlock := 0, blocksDone := 0 }, abortPending := false })) ∧
      (let k : WipeProgress := { nextBlock := 1, blocksDone := 0, tableDue := false }
       let s := inFlightOfA (activeAtA ready (.wipe 0 .partition (keyOf 1)) (.wipe k) true []) (.wipe 0 .partition (keyOf 1))
         false (.blankBlock 2)
       s.inFlight =
          some (.segment { port := .a, cmd := .wipe 0 .partition (keyOf 1), removed := false, work := .blankBlock 2 }) ∧
        (s.port .a).activeEntry =
          some (running (.wipe 0 .partition (keyOf 1)) (.wipe k) true, { progress := .wipe k, abortPending := true }) ∧
        s.live.records[(0 : Index)] = some (ofA 2 2 none)) := by decide

/-- A COMMIT of port A with its table segment in flight. -/
def segment (w : Work) : State :=
  inFlightOfA (activeAtA { (committingBy .a) with currentSlot := 0 } .commit (.job false) false []) .commit false w

theorem witness_TableSegmentsWriteTheOtherSlot :
    (∀ w ∈ [Work.tableBlank table, .tableHeader table, .tableRecords table],
        (segment w).inFlight = some (.segment { port := .a, cmd := .commit, removed := false, work := w }) ∧
          (1 : Nat) ≠ (segment w).currentSlot.val ∧ Memory.get (segment w).array (16 * 1) = none ∧
          Memory.get (segment w).array (16 * 1 + 1) = none ∧
          ((segment w).port .a).activeEntry =
            some (running .commit (.job false) false, { progress := .job false, abortPending := false }) ∧
          (segment w).tableState = .committing .a table 2) := by decide

theorem witness_SwitchoverMakesTheTableLive :
    (let s := segment (.tableRecords { table with generation := 6, records := table.records.set 3 none })
     let t := s.updPort .b fun u => { u with queue := [running (.read 3 0 1) (.read readStart) false], reserved := 1 }
     (t.port .b).activeEntry =
        some (running (.read 3 0 1) (.read readStart) false, { progress := .read readStart, abortPending := false }) ∧
      t.live.records[(3 : Index)] ≠ (table.records.set 3 none)[(3 : Index)] ∧
      (QueuedCommand.read 3 0 1).actsOn = some 3 ∧ QueuedCommand.commit.holdsTable = true ∧
      QueuedCommand.commit.keeps (.job false) = true) := by decide

theorem witness_LoadBuildsTheLiveTable :
    State.reset.inFlight = some (.load []) ∧
      ({ State.reset with inFlight := some (.load [.blank, .blank, .blank]) }).inFlight =
        some (.load [.blank, .blank, .blank]) ∧
      slotTable .blank .blank = none ∧ slotTable .blank (readSector State.reset.array 17) = none := by decide

theorem witness_TimersExpire :
    (idling.standbyTimer = some 9 ∧ idling.interval * 10 = 10 ∧ ready.standbyTimer = none ∧
        ({ ready with power := .waking }).power = .waking ∧ ready.power ≠ .waking) ∧
      (idling.tableState = .claimed .b table 2 3 ∧ 3 < 2 * 10 ∧ (lapsed .b).tableState = .claimed .b table 2 20 ∧
        2 * 10 ≤ 20 ∧ ready.tableState = .free) ∧
      ((ready.port .a).stallTimer = none ∧ ((stalling .a 2).port .a).stallTimer = some 2 ∧
        ((stalling .a 2).port .a).stallSetting = 3) ∧
      (let s := stalling .a 3
       (s.port .a).stallTimer = some 3 ∧ s.waitsOnData .a = true ∧
        (s.port .a).activeEntry.map (fun x => x.2.progress) =
          some (.write { nextSector := 0, sectorsDone := 0, failAt := none })) ∧
      (let s := (draining 0 true).updPort .a fun u => { u with stallSetting := 1, stallTimer := some 1 }
       (s.port .a).stallTimer = some 1 ∧ s.waitsOnData .a = true ∧
        (s.port .a).activeEntry.map (fun x => x.2.progress) =
          some (.read { readStart with sectorsRead := 1, readingClosed := true })) := by decide

/-- What `settle` meets: a wanted array in STANDBY, an idle array with its timer running and with it stopped, a wanted
array that is idle, and one that is not timed. -/
theorem witness_Settle :
    ({ blanking with power := .standby }.wantsGrant = true ∧ { ready with power := .standby }.wantsGrant = false) ∧
      (idling.idleTimed = true ∧ idling.standbyTimer = some 9 ∧ { idling with standbyTimer := none }.idleTimed = true ∧
        idling.wantsGrant = false) ∧
      ((blanking.mapPorts fun _ u => { u with vote := 1 }).idleTimed = true ∧
        (blanking.mapPorts fun _ u => { u with vote := 1 }).wantsGrant = true ∧ ready.idleTimed = false) := by decide

theorem witness_PortResetClearsThePort :
    reading.powered = true ∧ reading.resetLine = false ∧ ready.inFlight = none ∧
      State.reset.inFlight = some (.load []) ∧
      reading.inFlight =
        some (.segment { port := .a, cmd := .read 0 0 2, removed := false, work := .readSector 32 }) := by decide

/-- A port reset whose freed buffers let a READ of port A take one wakes the array in STANDBY; another does not. -/
theorem witness_PortResetWakes :
    (let s := { (activeAtA crowded (.read 0 0 2) (.read { readStart with nextSector := 0 }) false
        [buffer .ready 0, buffer .ready 0]) with power := .standby }
     s.powered = true ∧ s.resetLine = false ∧ s.inFlight = none ∧ s.part = .ready ∧ s.eligible .a = false ∧
      givesSome (exec (.portReset .b) s) (fun t => t.eligible .a && decide (t.power = .waking)) = true) ∧
      givesSome (exec (.portReset .b) { ready with power := .standby }) (fun t => decide (t.power = .standby)) = true := by
  decide

theorem witness_PartResetAndPowerClearTheRest :
    (reading.inFlight =
        some (.segment { port := .a, cmd := .read 0 0 2, removed := false, work := .readSector 32 }) ∧
      (writing false false).inFlight =
        some (.segment { port := .a, cmd := .write 0 0 1, removed := false, work := .programSector 32 [9, 9] })) ∧
      (ready.inFlight = none ∧ State.reset.inFlight = some (.load []) ∧
        (inFlightOfA blanking (.blank 0 0 2) false (.blankBlock 2)).inFlight =
          some (.segment { port := .a, cmd := .blank 0 0 2, removed := false, work := .blankBlock 2 }) ∧
        ∀ w ∈ [Work.tableBlank table, .tableHeader table, .tableRecords table],
          (segment w).inFlight = some (.segment { port := .a, cmd := .commit, removed := false, work := w }) ∧
            (1 : Nat) ≠ (segment w).currentSlot.val) ∧
      ready.resetLine = false ∧ ready.powered = true ∧ ({ ready with powered := false }).powered = false ∧
      ({ ready with resetLine := true }).resetLine = true := by decide

theorem witness_FramesMoveWords :
    (ready.takesAccess .c = true ∧ ready.frame = none ∧ ready.selected = false ∧
        ({ ready with selected := true }).takesAccess .c = true ∧ ({ ready with selected := true }).frame = none ∧ ({ ready with powered := false }).takesAccess .c = false) ∧
      (∀ loc ∈ [0, 21, 31], ∀ rd, (framed ready rd loc).takesAccess .c = true ∧
        (framed ready rd loc).frame = some { void := false, reading := rd, loc := loc, half := none }) ∧
      ({ ready with frame := some { void := true, reading := false, loc := 0, half := none } }).takesAccess .c = true ∧
      (framed ready true 21).accessMade .c true 21 = true ∧ ready.accessMade .a true 21 = true ∧
      ready.accessMade .a false 1 = true := by decide

/-- A write frame of port C that has a first byte, at the locations that act. -/
theorem witness_SecondBytesOfWriteFrames :
    ∀ loc ∈ [0, 12, 21, 22, 23, 31],
      let s := { framed ready false loc with
        frame := some { void := false, reading := false, loc := loc, half := some 9 } }
      s.takesAccess .c = true ∧ s.frame = some { void := false, reading := false, loc := loc, half := some 9 } := by decide

end Sys2Proof.Tests
end

namespace Sys2Proof.Machine

/-! ### What an access of a port's window can do -/

/-- A range that READ, CHECK and WRITE take at issue (R62). -/
theorem PortUnit.sectorRange_le {u : PortUnit} {i : Index} {start count : Nat}
    (h : u.sectorRange = some (i, start, count)) : start ≤ 16351 ∧ 1 ≤ count ∧ count ≤ 256 := by
  unfold PortUnit.sectorRange at h
  split at h
  · cases h
  · split at h
    · cases h; assumption
    · cases h

/-- A range that BLANK takes at issue (R62). -/
theorem PortUnit.blockRange_le {u : PortUnit} {i : Index} {first count : Nat}
    (h : u.blockRange = some (i, first, count)) : first ≤ 1021 ∧ 1 ≤ count ∧ count ≤ 1022 := by
  unfold PortUnit.blockRange at h
  split at h
  · cases h
  · split at h
    · cases h; assumption
    · cases h

/-- The reading of the parameter words at issue gives commands of R62's ranges only. -/
def GivesInRange (given : PortUnit → Option QueuedCommand) : Prop :=
  ∀ u cmd, given u = some cmd → cmd.inIssueRange = true

theorem givesInRange_read : GivesInRange PortUnit.givenRead := by
  intro u cmd h
  obtain ⟨⟨i, start, count⟩, hr, rfl⟩ := Option.map_eq_some_iff.mp h
  simpa [QueuedCommand.inIssueRange, and_assoc] using PortUnit.sectorRange_le hr

theorem givesInRange_check : GivesInRange PortUnit.givenCheck := by
  intro u cmd h
  obtain ⟨⟨i, start, count⟩, hr, rfl⟩ := Option.map_eq_some_iff.mp h
  simpa [QueuedCommand.inIssueRange, and_assoc] using PortUnit.sectorRange_le hr

theorem givesInRange_write : GivesInRange PortUnit.givenWrite := by
  intro u cmd h
  obtain ⟨⟨i, start, count⟩, hr, rfl⟩ := Option.map_eq_some_iff.mp h
  simpa [QueuedCommand.inIssueRange, and_assoc] using PortUnit.sectorRange_le hr

theorem givesInRange_blank : GivesInRange PortUnit.givenBlank := by
  intro u cmd h
  obtain ⟨⟨i, first, count⟩, hr, rfl⟩ := Option.map_eq_some_iff.mp h
  simpa [QueuedCommand.inIssueRange, and_assoc] using PortUnit.blockRange_le hr

theorem givesInRange_wipe : GivesInRange PortUnit.givenWipe := by
  intro u cmd h
  obtain ⟨_, _, rfl⟩ := Option.map_eq_some_iff.mp h
  rfl

theorem givesInRange_commit : GivesInRange fun _ => some .commit := by
  intro u cmd h
  cases h
  rfl

theorem givesInRange_openKey : GivesInRange PortUnit.givenOpen := by
  intro u cmd h
  obtain ⟨_, _, rfl⟩ := Option.map_eq_some_iff.mp h
  rfl

theorem givesInRange_setKey : GivesInRange PortUnit.givenSetKey := by
  intro u cmd h
  unfold PortUnit.givenSetKey at h
  split at h
  · cases h; rfl
  · cases h

theorem givesInRange_clearKey : GivesInRange PortUnit.givenClearKey := by
  intro u cmd h
  obtain ⟨_, _, rfl⟩ := Option.map_eq_some_iff.mp h
  rfl

theorem givesInRange_setRecovery : GivesInRange PortUnit.givenSetRecovery := by
  intro u cmd h
  cases h
  rfl

/-- Every effect that an access of a port's window can have, before port C's frame moves (R171, R176, R177). -/
inductive State.WindowEffect (s : State) (p : Port) : State → Prop
  | nothing : WindowEffect s p s
  | issueQueued (tag : Byte) {given : PortUnit → Option QueuedCommand} (range : GivesInRange given) :
    WindowEffect s p (s.issueQueued p tag given)
  | badCommand : WindowEffect s p (s.issueBadCommand p)
  | claim : WindowEffect s p (s.claim p)
  | discard : WindowEffect s p (s.discard p)
  | define : WindowEffect s p (s.define p)
  | delete : WindowEffect s p (s.delete p)
  | resize : WindowEffect s p (s.resize p)
  | modify : WindowEffect s p (s.modify p)
  | close : WindowEffect s p (s.close p)
  | hold : WindowEffect s p (s.takeHold p)
  | stageKey : WindowEffect s p (s.stageKey p)
  | abort : WindowEffect s p (s.abort p)
  | pop : WindowEffect s p (s.updPort p PortUnit.pop)
  | watch : WindowEffect s p (s.watch p)
  | notices : WindowEffect s p (s.updPort p PortUnit.notices)
  | info : WindowEffect s p (s.info p)
  | setup : WindowEffect s p (s.setup p)
  | dataWrite (w : Word) : WindowEffect s p (s.dataWrite p w)
  | dataRead : WindowEffect s p (s.dataRead p)
  | eventsWrite (w : Word) : WindowEffect s p (s.eventsWrite p w)
  | enableWrite (w : Word) : WindowEffect s p (s.enableWrite p w)
  | paramWrite (loc : Nat) (w : Word) : WindowEffect s p (s.paramWrite p loc w)
  | output (w : Word) : WindowEffect s p (s.output p w)

theorem State.windowEffect_issueWord (s : State) (p : Port) (w : Word) : s.WindowEffect p (s.issueWord p w) := by
  unfold State.issueWord
  generalize decodeIssue p (s.port p).params[0] w = c
  cases c with
  | read _ tag => exact .issueQueued tag givesInRange_read
  | check _ tag => exact .issueQueued tag givesInRange_check
  | write _ tag => exact .issueQueued tag givesInRange_write
  | blank _ tag => exact .issueQueued tag givesInRange_blank
  | wipe _ tag => exact .issueQueued tag givesInRange_wipe
  | commit _ tag => exact .issueQueued tag givesInRange_commit
  | openKey _ tag => exact .issueQueued tag givesInRange_openKey
  | setKey _ tag => exact .issueQueued tag givesInRange_setKey
  | clearKey _ tag => exact .issueQueued tag givesInRange_clearKey
  | setRecovery _ tag => exact .issueQueued tag givesInRange_setRecovery
  | badCommand _ _ => exact .badCommand
  | claim _ => exact .claim
  | discard _ => exact .discard
  | define _ => exact .define
  | delete _ => exact .delete
  | resize _ => exact .resize
  | modify _ => exact .modify
  | close _ => exact .close
  | hold _ => exact .hold
  | stageKey _ => exact .stageKey
  | abort _ => exact .abort
  | pop _ => exact .pop
  | watch _ => exact .watch
  | notices _ => exact .notices
  | infoPart _ => exact .info
  | infoPartition _ => exact .info
  | setup _ => exact .setup
  | _ => exact .nothing

theorem State.windowEffect_windowWrite (s : State) (p : Port) (loc : Nat) (w : Word) :
    s.WindowEffect p (s.windowWrite p loc w) := by
  unfold State.windowWrite
  split
  · exact s.windowEffect_issueWord p w
  split
  · exact .dataWrite w
  split
  · exact .eventsWrite w
  split
  · exact .enableWrite w
  · exact .paramWrite loc w

theorem State.windowEffect_readToOutput (s : State) (p : Port) (loc : Nat) :
    s.WindowEffect p (s.readToOutput p loc) := by
  unfold State.readToOutput
  split
  · exact .dataRead
  · exact .output _

/-! ### What the events of the part can do -/

/-- Every effect that an event of the arbiter, the array, the timers, the reset lines or the supply can have, and the
passing of 10 ms (log 5). -/
inductive State.Event (s : State) : State → Prop
  | nothing : Event s s
  | commandStart (p : Port) : Event s (s.commandStart p)
  | grant {p : Port} {e : Entry} {a : Active} {w : Work} (may : s.mayGrant = true) (grantee : s.grantee = some p)
    (work : s.nextWork p = some (e, a, w)) (inArray : w.inArray = true) : Event s (s.grant p e a w)
  | readEnd {g : Segment} {i : Index} {start count n : Nat} (flight : s.inFlight = some (.segment g))
    (cmd : g.cmd = .read i start count) (work : g.work = .readSector n) :
    Event s (s.readEnd g count (readSector s.array n)).settle
  | checkEnd {g : Segment} {i : Index} {start count n : Nat} (flight : s.inFlight = some (.segment g))
    (cmd : g.cmd = .check i start count) (work : g.work = .readSector n) :
    Event s (s.checkEnd g count (readSector s.array n)).settle
  | writeEnd {g : Segment} {i : Index} {start count n : Nat} {data : List Byte} (ok : Bool)
    (flight : s.inFlight = some (.segment g)) (cmd : g.cmd = .write i start count)
    (work : g.work = .programSector n data) : Event s (s.writeEnd g i count n data ok).settle
  | blankEnd {g : Segment} {i : Index} {first count b : Nat} (flight : s.inFlight = some (.segment g))
    (cmd : g.cmd = .blank i first count) (work : g.work = .blankBlock b) : Event s (s.blankEnd g i count b).settle
  | wipeBlockEnd {g : Segment} {i : Index} {which : Which} {key : Key} {b : Nat}
    (flight : s.inFlight = some (.segment g)) (cmd : g.cmd = .wipe i which key) (work : g.work = .blankBlock b) :
    Event s (s.wipeBlockEnd g i b).settle
  | tableBlankEnd {g : Segment} {new : Table} (flight : s.inFlight = some (.segment g))
    (work : g.work = .tableBlank new) :
    Event s (s.goOn g (.tableHeader new) (blankBlock s.array s.tableSlot.val))
  | headerEnd {g : Segment} {new : Table} (ok : Bool) (flight : s.inFlight = some (.segment g))
    (work : g.work = .tableHeader new) : Event s (s.headerEnd g new ok)
  | recordsEnd {g : Segment} {new : Table} (ok : Bool) (flight : s.inFlight = some (.segment g))
    (work : g.work = .tableRecords new) : Event s (s.recordsEnd g new ok)
  | loadEnd {got : List ReadReport} (flight : s.inFlight = some (.load got)) :
    Event s (s.loadEnd (got ++ [readSector s.array (loadSector got.length)]))
  | standbyExpiry : Event s s.standbyExpiry
  | wakeEnd : Event s s.wakeEnd
  | leaseExpiry : Event s s.leaseExpiry
  | stallExpiry (p : Port) : Event s (s.stallExpiry p)
  | tick : Event s s.tick
  | resetPort (p : Port) (powered : s.powered = true) (line : s.resetLine = false) : Event s (s.resetPort p)
  | withPrst (p : Port) (level : Bool) : Event s (s.withPrst p level)
  | partReset (begun : Bool) (powered : s.powered = true) : Event s { s.wiped begun with resetLine := true }
  | partResetUnpowered (powered : s.powered = false) : Event s { s with resetLine := true }
  | releaseReset (line : s.resetLine = true) : Event s s.releaseReset
  | powerOn (begun : Bool) : Event s { s.wiped begun with powered := true, inFlight := startLoad s.resetLine }
  | powerLoss (begun : Bool) (powered : s.powered = true) : Event s { s.wiped begun with powered := false }

/-! ### What a command can do, and a step -/

/-- A command acts through a window, with port C's frame moving before and after, or it is an event. -/
inductive State.Change (s : State) : State → Prop
  | window {p : Port} {t : State} (f f' : Option Frame) (b b' : Bool)
    (effect : { s with frame := f, selected := b }.WindowEffect p t) :
    Change s { t with frame := f', selected := b' }
  | event {t : State} (h : s.Event t) : Change s t

/-- An effect of a window with the frame left as it is. -/
theorem State.WindowEffect.change {s t : State} {p : Port} (h : s.WindowEffect p t) : s.Change t :=
  .window s.frame t.frame s.selected t.selected h

/-- An effect of a window after which port C's frame moves past a word. -/
theorem State.WindowEffect.change_passWord {s t : State} {p : Port} (h : s.WindowEffect p t) (q : Port) :
    s.Change (t.passWord q) := by
  cases q with
  | c => exact .window s.frame (t.passWord .c).frame s.selected t.selected h
  | _ => exact h.change

theorem State.change_onWrite (s : State) (p : Port) (loc : Nat) {effect : State → State}
    (h : s.WindowEffect p (effect s)) : s.Change (s.onWrite p loc effect) := by
  unfold State.onWrite
  split
  · exact h.change_passWord p
  · exact .event .nothing

theorem State.change_byteInFrame (s : State) (f : Frame) (b : Byte) : s.Change (s.byteInFrame f b) := by
  unfold State.byteInFrame
  split
  · exact (WindowEffect.output (p := .c) 0).change
  split
  · split
    · exact .window s.frame _ s.selected _ (s.windowEffect_readToOutput .c f.loc)
    · exact (WindowEffect.nothing (p := .c)).change_passWord .c
  · split
    · exact .window s.frame _ s.selected _ (.nothing (p := .c))
    · exact .window (some { f with half := none }) _ s.selected _ (State.windowEffect_windowWrite _ .c _ _)

theorem State.change_frameByte (s : State) (b : Byte) : s.Change (s.frameByte b) := by
  unfold State.frameByte
  split
  · split
    · exact s.change_byteInFrame _ b
    · split
      · exact .event .nothing
      · exact .window s.frame _ s.selected _ (.nothing (p := .c))
  · exact .window s.frame _ s.selected _ (.nothing (p := .c))

/-- What a command that has a next state can do. -/
theorem exec_change {c : Instr} {s t : State} (h : exec c s = .next t) : s.Change t := by
  cases c with
  | read p tag => cases h; exact s.change_onWrite p 0 (.issueQueued tag givesInRange_read)
  | check p tag => cases h; exact s.change_onWrite p 0 (.issueQueued tag givesInRange_check)
  | write p tag => cases h; exact s.change_onWrite p 0 (.issueQueued tag givesInRange_write)
  | blank p tag => cases h; exact s.change_onWrite p 0 (.issueQueued tag givesInRange_blank)
  | wipe p tag => cases h; exact s.change_onWrite p 0 (.issueQueued tag givesInRange_wipe)
  | commit p tag => cases h; exact s.change_onWrite p 0 (.issueQueued tag givesInRange_commit)
  | openKey p tag => cases h; exact s.change_onWrite p 0 (.issueQueued tag givesInRange_openKey)
  | setKey p tag => cases h; exact s.change_onWrite p 0 (.issueQueued tag givesInRange_setKey)
  | clearKey p tag => cases h; exact s.change_onWrite p 0 (.issueQueued tag givesInRange_clearKey)
  | setRecovery p tag => cases h; exact s.change_onWrite p 0 (.issueQueued tag givesInRange_setRecovery)
  | badCommand p word => cases h; exact s.change_onWrite p 0 (s.windowEffect_issueWord p word)
  | claim p => cases h; exact s.change_onWrite p 0 .claim
  | discard p => cases h; exact s.change_onWrite p 0 .discard
  | define p => cases h; exact s.change_onWrite p 0 .define
  | delete p => cases h; exact s.change_onWrite p 0 .delete
  | resize p => cases h; exact s.change_onWrite p 0 .resize
  | modify p => cases h; exact s.change_onWrite p 0 .modify
  | close p => cases h; exact s.change_onWrite p 0 .close
  | hold p => cases h; exact s.change_onWrite p 0 .hold
  | stageKey p => cases h; exact s.change_onWrite p 0 .stageKey
  | abort p => cases h; exact s.change_onWrite p 0 .abort
  | pop p => cases h; exact s.change_onWrite p 0 .pop
  | watch p => cases h; exact s.change_onWrite p 0 .watch
  | notices p => cases h; exact s.change_onWrite p 0 .notices
  | infoPart p => cases h; exact s.change_onWrite p 0 .info
  | infoPartition p => cases h; exact s.change_onWrite p 0 .info
  | setup p => cases h; exact s.change_onWrite p 0 .setup
  | dataWrite p word => cases h; exact s.change_onWrite p 21 (.dataWrite word)
  | dataRead p =>
    cases h
    split
    · exact (State.WindowEffect.dataRead (p := p)).change_passWord p
    · exact (State.WindowEffect.output (p := p) 0).change
  | eventsWrite p word => cases h; exact s.change_onWrite p 22 (.eventsWrite word)
  | eventEnableWrite p word => cases h; exact s.change_onWrite p 23 (.enableWrite word)
  | registerWrite p loc word => cases h; exact s.change_onWrite p loc.val (s.windowEffect_windowWrite p loc.val word)
  | commandStart p => cases h; exact .event (.commandStart p)
  | segmentGrant =>
    simp only [exec, execSegmentGrant] at h
    split at h
    · rename_i may
      split at h
      · cases h; exact .event .nothing
      · rename_i p grantee
        split at h
        · cases h; exact .event .nothing
        · rename_i e a w work
          split at h
          · rename_i inArray; cases h; exact .event (.grant may grantee work inArray)
          · cases h
    · cases h; exact .event .nothing
  | readSectorReadEnd =>
    simp only [exec, execReadSectorReadEnd] at h
    split at h
    · rename_i flight
      split at h
      · rename_i cmd work; cases h; exact .event (.readEnd flight cmd work)
      · cases h; exact .event .nothing
    · cases h; exact .event .nothing
  | checkSectorReadEnd =>
    simp only [exec, execCheckSectorReadEnd] at h
    split at h
    · rename_i flight
      split at h
      · rename_i cmd work; cases h; exact .event (.checkEnd flight cmd work)
      · cases h; exact .event .nothing
    · cases h; exact .event .nothing
  | writeProgramEnd ok =>
    simp only [exec, execWriteProgramEnd] at h
    split at h
    · rename_i flight
      split at h
      · rename_i cmd work; cases h; exact .event (.writeEnd ok flight cmd work)
      · cases h; exact .event .nothing
    · cases h; exact .event .nothing
  | blankBlockEnd =>
    simp only [exec, execBlankBlockEnd] at h
    split at h
    · rename_i flight
      split at h
      · rename_i cmd work; cases h; exact .event (.blankEnd flight cmd work)
      · cases h; exact .event .nothing
    · cases h; exact .event .nothing
  | wipeBlockEnd =>
    simp only [exec, execWipeBlockEnd] at h
    split at h
    · rename_i flight
      split at h
      · rename_i cmd work; cases h; exact .event (.wipeBlockEnd flight cmd work)
      · cases h; exact .event .nothing
    · cases h; exact .event .nothing
  | tableBlockBlankEnd =>
    simp only [exec, execTableBlockBlankEnd] at h
    split at h
    · rename_i flight
      split at h
      · rename_i work; cases h; exact .event (.tableBlankEnd flight work)
      · cases h; exact .event .nothing
    · cases h; exact .event .nothing
  | tableHeaderProgramEnd ok =>
    simp only [exec, execTableHeaderProgramEnd] at h
    split at h
    · rename_i flight
      split at h
      · rename_i work; cases h; exact .event (.headerEnd ok flight work)
      · cases h; exact .event .nothing
    · cases h; exact .event .nothing
  | tableRecordsProgramEnd ok =>
    simp only [exec, execTableRecordsProgramEnd] at h
    split at h
    · rename_i flight
      split at h
      · rename_i work; cases h; exact .event (.recordsEnd ok flight work)
      · cases h; exact .event .nothing
    · cases h; exact .event .nothing
  | loadReadEnd =>
    simp only [exec, execLoadReadEnd] at h
    split at h
    · rename_i flight; cases h; exact .event (.loadEnd flight)
    · cases h; exact .event .nothing
  | standbyTimerExpiry => cases h; exact .event .standbyExpiry
  | wakeEnd => cases h; exact .event .wakeEnd
  | leaseExpiry => cases h; exact .event .leaseExpiry
  | stallExpiry p => cases h; exact .event (.stallExpiry p)
  | portReset p =>
    cases h
    split
    · rename_i free
      obtain ⟨powered, line⟩ := Bool.and_eq_true_iff.mp free
      exact .event (.resetPort p powered (by simpa using line))
    · exact .event (.withPrst p true)
  | portResetRelease p => cases h; exact .event (.withPrst p false)
  | partReset begun =>
    cases h
    split
    · rename_i powered; exact .event (.partReset begun powered)
    · rename_i powered; exact .event (.partResetUnpowered (by simpa using powered))
  | partResetRelease =>
    cases h
    split
    · rename_i line; exact .event (.releaseReset line)
    · exact .event .nothing
  | powerOn begun => cases h; exact .event (.powerOn begun)
  | powerLoss begun =>
    cases h
    split
    · rename_i powered; exact .event (.powerLoss begun powered)
    · exact .event .nothing
  | frameByte byte => cases h; exact s.change_frameByte byte
  | frameEnd => cases h; exact .window s.frame none s.selected false (.nothing (p := .c))

/-- With no command waiting a step is an expiry or 10 ms (log 5). -/
theorem State.event_idle (s : State) : s.Event s.idle := by
  obtain h | h | ⟨p, h⟩ | h := s.idle_cases
  · rw [h]; exact .standbyExpiry
  · rw [h]; exact .leaseExpiry
  · rw [h]; exact .stallExpiry p
  · rw [h]; exact .tick

/-- The induction of every law over a step: from `I` before, each effect of a window and each event gives `J` after.
The waiting commands and port C's frame are beside the law. -/
theorem step_induction {I J : State → Prop} (pending : ∀ s l, I s → I { s with pending := l })
    (before : ∀ s f b, I s → I { s with frame := f, selected := b })
    (after : ∀ t f b, J t → J { t with frame := f, selected := b })
    (window : ∀ {s t p}, I s → s.WindowEffect p t → J t) (event : ∀ {s t}, I s → s.Event t → J t)
    {s t : State} (h : step s = .next t) (hs : I s) : J t := by
  unfold step at h
  split at h
  · cases h
    exact event hs s.event_idle
  · rename_i rest _
    cases exec_change h with
    | window f f' b b' effect => exact after _ f' b' (window (before _ f b (pending s rest hs)) effect)
    | event e => exact event (pending s rest hs) e

end Sys2Proof.Machine

namespace Sys2Proof.Machine

/-! ### What is beside the ports, the table state and the timers -/

/-- From `s` to `t` the array, the operation in flight, the live table, the change counts, the lines and port C's frame
stay; and an operation in flight over a READY array keeps the array READY and the standby timer stopped. Accesses of the
window, starts and expiries are all of this kind. -/
structure State.SameCourse (s t : State) : Prop where
  pending : t.pending = s.pending
  powered : t.powered = s.powered
  resetLine : t.resetLine = s.resetLine
  part : t.part = s.part
  array : t.array = s.array
  lastGranted : t.lastGranted = s.lastGranted
  inFlight : t.inFlight = s.inFlight
  live : t.live = s.live
  currentSlot : t.currentSlot = s.currentSlot
  counts : t.counts = s.counts
  frame : t.frame = s.frame
  selected : t.selected = s.selected
  busy : s.inFlight ≠ none → s.power = .ready → s.standbyTimer = none → t.power = .ready ∧ t.standbyTimer = none

theorem State.SameCourse.trans {s t u : State} (h : s.SameCourse t) (k : t.SameCourse u) : s.SameCourse u where
  pending := k.pending.trans h.pending
  powered := k.powered.trans h.powered
  resetLine := k.resetLine.trans h.resetLine
  part := k.part.trans h.part
  array := k.array.trans h.array
  lastGranted := k.lastGranted.trans h.lastGranted
  inFlight := k.inFlight.trans h.inFlight
  live := k.live.trans h.live
  currentSlot := k.currentSlot.trans h.currentSlot
  counts := k.counts.trans h.counts
  frame := k.frame.trans h.frame
  selected := k.selected.trans h.selected
  busy flight power timer :=
    have ⟨power', timer'⟩ := h.busy flight power timer
    k.busy (h.inFlight.symm ▸ flight) power' timer'

/-- An update of the table state, the hold, the open sets and the ports. -/
theorem State.sameCourse_with (s : State) (tableState : TableState) (held : Bool) (openSets : PerIndex PortSet)
    (ports : PerPort PortUnit) :
    s.SameCourse { s with tableState := tableState, held := held, openSets := openSets, ports := ports } :=
  ⟨rfl, rfl, rfl, rfl, rfl, rfl, rfl, rfl, rfl, rfl, rfl, rfl, fun _ power timer => ⟨power, timer⟩⟩

theorem State.SameCourse.refl (s : State) : s.SameCourse s := s.sameCourse_with _ _ _ _

theorem State.sameCourse_updPort (s : State) (p : Port) (f : PortUnit → PortUnit) : s.SameCourse (s.updPort p f) :=
  s.sameCourse_with _ _ _ _

theorem State.sameCourse_answer (s : State) (p : Port) (ws : Vector Word 8) : s.SameCourse (s.answer p ws) :=
  s.sameCourse_updPort p _

/-- No grant is wanted while the part is LOADING. -/
theorem State.wantsGrant_of_loading {s : State} (h : s.part = .loading) : s.wantsGrant = false := by
  simp [State.wantsGrant, h]

/-- Without a grant wanted the array power state stays. -/
theorem State.power_settle_of_not_wanted {s : State} (h : s.wantsGrant = false) : s.settle.power = s.power := by
  show s.wakeIfWanted.power = s.power
  simp [State.wakeIfWanted, h]

/-- A READY array stays so: only STANDBY wakes. -/
theorem State.power_settle_of_ready {s : State} (h : s.power = .ready) : s.settle.power = .ready := by
  show s.wakeIfWanted.power = .ready
  simp [State.wakeIfWanted, h]

theorem State.interval_wakeIfWanted (s : State) : s.wakeIfWanted.interval = s.interval := by
  unfold State.wakeIfWanted
  split <;> rfl

/-- The standby timer stops with an operation in flight (R11). -/
theorem State.standbyTimer_settle_of_inFlight {s : State} (h : s.inFlight ≠ none) : s.settle.standbyTimer = none := by
  show s.wakeIfWanted.followStandby.standbyTimer = none
  simp [State.followStandby, State.idleTimed, followTimer, h]

/-- The standby timer stops while the part is LOADING (R11). -/
theorem State.standbyTimer_settle_of_loading {s : State} (h : s.part = .loading) : s.settle.standbyTimer = none := by
  show s.wakeIfWanted.followStandby.standbyTimer = none
  simp [State.followStandby, State.idleTimed, followTimer, h]

theorem State.sameCourse_settle (s : State) : s.SameCourse s.settle where
  pending := s.pending_settle
  powered := s.powered_settle
  resetLine := s.resetLine_settle
  part := s.part_settle
  array := s.array_settle
  lastGranted := s.lastGranted_settle
  inFlight := s.inFlight_settle
  live := s.live_settle
  currentSlot := s.currentSlot_settle
  counts := s.counts_settle
  frame := s.frame_settle
  selected := s.selected_settle
  busy flight power _ := ⟨State.power_settle_of_ready power, State.standbyTimer_settle_of_inFlight flight⟩

theorem State.SameCourse.settle {s t : State} (h : s.SameCourse t) : s.SameCourse t.settle :=
  h.trans t.sameCourse_settle

theorem State.sameCourse_finish (s : State) (p : Port) (st : Status) : s.SameCourse (s.finish p st) := by
  unfold State.finish
  split
  · exact .refl s
  · exact s.sameCourse_updPort p _

theorem State.sameCourse_leaveTableState (s : State) (cmd : QueuedCommand) : s.SameCourse (s.leaveTableState cmd) := by
  unfold State.leaveTableState
  repeat' split
  all_goals exact s.sameCourse_with _ _ _ _

theorem State.sameCourse_tableFault (s : State) (p : Port) (cmd : QueuedCommand) (removed : Bool) :
    s.SameCourse (s.tableFault p cmd removed) := by
  unfold State.tableFault
  split
  · exact s.sameCourse_with _ _ _ _
  · exact (s.sameCourse_leaveTableState cmd).trans (State.sameCourse_finish _ _ _)

/-! ### Accesses of the window -/

theorem State.sameCourse_claim (s : State) (p : Port) : s.SameCourse (s.claim p) := by
  unfold State.claim
  dsimp only
  repeat' split
  all_goals exact s.sameCourse_with _ _ _ _

theorem State.sameCourse_discard (s : State) (p : Port) : s.SameCourse (s.discard p) := by
  unfold State.discard
  repeat' split
  all_goals exact s.sameCourse_with _ _ _ _

theorem State.sameCourse_edit (s : State) (p : Port) (f : Table → Nat ⊕ Table) : s.SameCourse (s.edit p f) := by
  unfold State.edit
  repeat' split
  all_goals exact s.sameCourse_with _ _ _ _

theorem State.sameCourse_takeHold (s : State) (p : Port) : s.SameCourse (s.takeHold p) := by
  unfold State.takeHold
  repeat' split
  all_goals exact s.sameCourse_with _ _ _ _

theorem State.sameCourse_close (s : State) (p : Port) : s.SameCourse (s.close p) := by
  unfold State.close
  repeat' split
  all_goals exact s.sameCourse_with _ _ _ _

theorem State.sameCourse_watch (s : State) (p : Port) : s.SameCourse (s.watch p) := by
  unfold State.watch
  repeat' split
  all_goals exact s.sameCourse_with _ _ _ _

theorem State.sameCourse_info (s : State) (p : Port) : s.SameCourse (s.info p) := by
  unfold State.info
  dsimp only
  repeat' split
  all_goals exact s.sameCourse_answer p _

theorem State.sameCourse_abortActive (s : State) (p : Port) (e : Entry) (a : Active) :
    s.SameCourse (s.abortActive p e a) := by
  unfold State.abortActive
  split
  · exact s.sameCourse_updPort p _
  · exact (s.sameCourse_finish p _).trans (State.sameCourse_leaveTableState _ _)

theorem State.sameCourse_abort (s : State) (p : Port) : s.SameCourse (s.abort p) := by
  unfold State.abort
  split
  · exact s.sameCourse_answer p _
  split
  · exact s.sameCourse_answer p _
  split
  · exact (s.sameCourse_updPort p _).trans (State.sameCourse_answer _ p _)
  · exact ((s.sameCourse_abortActive p _ _).trans (State.sameCourse_answer _ p _)).settle

theorem State.sameCourse_intervalChanged (s : State) (old : Nat) : s.SameCourse (s.intervalChanged old) := by
  unfold State.intervalChanged
  split
  · exact .refl s
  · exact ⟨rfl, rfl, rfl, rfl, rfl, rfl, rfl, rfl, rfl, rfl, rfl, rfl,
      fun _ power timer => ⟨power, congrArg restartTimer timer⟩⟩

theorem State.sameCourse_setup (s : State) (p : Port) : s.SameCourse (s.setup p) := by
  unfold State.setup
  dsimp only
  split
  · split
    · exact ((s.sameCourse_updPort p _).trans (State.sameCourse_intervalChanged _ _)).settle
    · exact s.sameCourse_answer p _
  · exact s.sameCourse_answer p _

theorem State.sameCourse_refuseData (s : State) (p : Port) : s.SameCourse (s.refuseData p) := s.sameCourse_updPort p _

theorem State.sameCourse_output (s : State) (p : Port) (w : Word) : s.SameCourse (s.output p w) :=
  s.sameCourse_updPort p _

theorem State.sameCourse_emptyRead (s : State) (p : Port) : s.SameCourse (s.emptyRead p) :=
  (s.sameCourse_refuseData p).trans (State.sameCourse_output _ p 0)

theorem State.sameCourse_dataWrite (s : State) (p : Port) (w : Word) : s.SameCourse (s.dataWrite p w) := by
  unfold State.dataWrite
  split
  · exact s.sameCourse_refuseData p
  split
  · split
    · split
      · exact (s.sameCourse_updPort p _).settle
      · split
        · exact (s.sameCourse_updPort p _).settle
        · exact s.sameCourse_refuseData p
    · exact s.sameCourse_refuseData p
  all_goals exact s.sameCourse_refuseData p

theorem State.sameCourse_completeRead (s : State) (p : Port) : s.SameCourse (s.completeRead p) := by
  unfold State.completeRead
  split
  · exact .refl s
  split
  · split
    · exact s.sameCourse_finish p _
    · exact .refl s
  · exact .refl s

theorem State.sameCourse_dataRead (s : State) (p : Port) : s.SameCourse (s.dataRead p) := by
  unfold State.dataRead
  split
  · exact s.sameCourse_emptyRead p
  split
  · split
    · exact s.sameCourse_emptyRead p
    split
    · exact s.sameCourse_emptyRead p
    split
    · exact (((s.sameCourse_output p _).trans (State.sameCourse_updPort _ p _)).trans
        (State.sameCourse_completeRead _ p)).settle
    · exact s.sameCourse_emptyRead p
  · exact s.sameCourse_emptyRead p

theorem State.sameCourse_paramWrite (s : State) (p : Port) (loc : Nat) (w : Word) :
    s.SameCourse (s.paramWrite p loc w) := by
  unfold State.paramWrite
  split
  · exact s.sameCourse_updPort p _
  · exact .refl s

/-- No access of a window touches the array, the operation in flight, the live table or the change counts. -/
theorem State.WindowEffect.sameCourse {s t : State} {p : Port} (h : s.WindowEffect p t) : s.SameCourse t := by
  cases h with
  | nothing => exact .refl s
  | badCommand => exact s.sameCourse_answer p _
  | claim => exact s.sameCourse_claim p
  | discard => exact s.sameCourse_discard p
  | define => exact s.sameCourse_edit p _
  | delete => exact s.sameCourse_edit p _
  | resize => exact s.sameCourse_edit p _
  | modify => exact s.sameCourse_edit p _
  | close => exact s.sameCourse_close p
  | hold => exact s.sameCourse_takeHold p
  | abort => exact s.sameCourse_abort p
  | watch => exact s.sameCourse_watch p
  | info => exact s.sameCourse_info p
  | setup => exact s.sameCourse_setup p
  | dataWrite w => exact s.sameCourse_dataWrite p w
  | dataRead => exact s.sameCourse_dataRead p
  | paramWrite loc w => exact s.sameCourse_paramWrite p loc w
  | _ => exact s.sameCourse_updPort p _

/-! ### Starts, expiries and time -/

theorem State.sameCourse_openIfMatched (s : State) (p : Port) (cmd : QueuedCommand) (st : Status) :
    s.SameCourse (s.openIfMatched p cmd st) := by
  unfold State.openIfMatched
  repeat' split
  all_goals exact s.sameCourse_with _ _ _ _

theorem State.sameCourse_enterTableState (s : State) (p : Port) (cmd : QueuedCommand) :
    s.SameCourse (s.enterTableState p cmd) := by
  unfold State.enterTableState
  repeat' split
  all_goals exact s.sameCourse_with _ _ _ _

theorem State.sameCourse_commandStart (s : State) (p : Port) : s.SameCourse (s.commandStart p) := by
  unfold State.commandStart
  split
  · split
    · exact .refl s
    split
    · exact ((s.sameCourse_updPort p _).trans (State.sameCourse_openIfMatched _ p _ _)).settle
    · exact ((s.sameCourse_updPort p _).trans (State.sameCourse_enterTableState _ p _)).settle
  · exact .refl s

theorem State.sameCourse_standbyExpiry (s : State) : s.SameCourse s.standbyExpiry := by
  unfold State.standbyExpiry
  split
  · rename_i due
    refine .settle ⟨rfl, rfl, rfl, rfl, rfl, rfl, rfl, rfl, rfl, rfl, rfl, rfl, fun _ _ timer => ?_⟩
    simp [State.standbyDue, timer] at due
  · exact .refl s

theorem State.sameCourse_wakeEnd (s : State) : s.SameCourse s.wakeEnd := by
  unfold State.wakeEnd
  split
  · exact .settle ⟨rfl, rfl, rfl, rfl, rfl, rfl, rfl, rfl, rfl, rfl, rfl, rfl, fun _ _ timer => ⟨rfl, timer⟩⟩
  · exact .refl s

theorem State.sameCourse_leaseExpiry (s : State) : s.SameCourse s.leaseExpiry := by
  unfold State.leaseExpiry State.loseClaim
  repeat' split
  all_goals exact s.sameCourse_with _ _ _ _

theorem State.sameCourse_stallExpiry (s : State) (p : Port) : s.SameCourse (s.stallExpiry p) := by
  unfold State.stallExpiry
  split
  · exact (s.sameCourse_finish p _).settle
  · exact .refl s

/-- The passage of 10 ms changes nothing of a port unit but its stall timer. -/
theorem State.port_tick (s : State) (p : Port) :
    s.tick.port p =
      { s.port p with stallTimer := (s.port p).stallTimer.map (countUp (s.port p).stallSetting) } :=
  PerPort.get_mapPorts _ _ p

theorem State.sameCourse_tick (s : State) : s.SameCourse s.tick :=
  ⟨rfl, rfl, rfl, rfl, rfl, rfl, rfl, rfl, rfl, rfl, rfl, rfl, fun _ power timer => ⟨power, by simp [State.tick, timer]⟩⟩

/-! ### The ends of the array's operations -/

theorem State.sameCourse_readEnd (s : State) (g : Segment) (count : Nat) (report : ReadReport) :
    s.landed.SameCourse (s.readEnd g count report) := by
  unfold State.readEnd
  split
  · exact State.sameCourse_updPort _ _ _
  split
  · exact .refl _
  split
  · dsimp only
    split
    · exact (State.sameCourse_updPort _ _ _).trans (State.sameCourse_finish _ _ _)
    · exact (State.sameCourse_updPort _ _ _).trans (State.sameCourse_completeRead _ _)
  · exact .refl _

theorem State.sameCourse_checkEnd (s : State) (g : Segment) (count : Nat) (report : ReadReport) :
    s.landed.SameCourse (s.checkEnd g count report) := by
  unfold State.checkEnd
  split
  · exact .refl _
  split
  · exact .refl _
  split
  · dsimp only
    split
    · exact (State.sameCourse_updPort _ _ _).trans (State.sameCourse_finish _ _ _)
    split
    · exact (State.sameCourse_updPort _ _ _).trans (State.sameCourse_finish _ _ _)
    · exact State.sameCourse_updPort _ _ _
  · exact .refl _

theorem State.sameCourse_writeReport (s : State) (p : Port) (count : Nat) (w : WriteProgress) (abortPending : Bool)
    (report : ProgramReport) : s.SameCourse (s.writeReport p count w abortPending report) := by
  cases report with
  | written =>
    unfold State.writeReport
    dsimp only
    split
    · exact (State.sameCourse_updPort _ _ _).trans (State.sameCourse_finish _ _ _)
    split
    · exact (State.sameCourse_updPort _ _ _).trans (State.sameCourse_finish _ _ _)
    · exact State.sameCourse_updPort _ _ _
  | _ => exact (State.sameCourse_updPort _ _ _).trans (State.sameCourse_finish _ _ _)

/-- The end of a WRITE's segment beside what its program leaves in the array and the change count. -/
theorem State.sameCourse_writeEnd (s : State) (g : Segment) (i : Index) (count n : Nat) (data : List Byte) (ok : Bool) :
    (s.programmed i g.port n data ok).SameCourse (s.writeEnd g i count n data ok) := by
  unfold State.writeEnd
  dsimp only
  split
  · exact State.sameCourse_updPort _ _ _
  split
  · exact .refl _
  split
  · exact State.sameCourse_writeReport _ _ _ _ _ _
  · exact .refl _

/-- The end of a BLANK's segment beside what the block blank leaves in the array and the change count. -/
theorem State.sameCourse_blankEnd (s : State) (g : Segment) (i : Index) (count b : Nat) :
    (s.blanked i g.port b).SameCourse (s.blankEnd g i count b) := by
  unfold State.blankEnd
  dsimp only
  split
  · exact .refl _
  split
  · exact .refl _
  split
  · split
    · exact (State.sameCourse_updPort _ _ _).trans (State.sameCourse_finish _ _ _)
    split
    · exact (State.sameCourse_updPort _ _ _).trans (State.sameCourse_finish _ _ _)
    · exact State.sameCourse_updPort _ _ _
  · exact .refl _

/-- The end of a WIPE's block segment beside what the block blank leaves in the array and the change count. -/
theorem State.sameCourse_wipeBlockEnd (s : State) (g : Segment) (i : Index) (b : Nat) :
    (s.blanked i g.port b).SameCourse (s.wipeBlockEnd g i b) := by
  unfold State.wipeBlockEnd
  dsimp only
  split
  · exact State.sameCourse_with _ _ _ _ _
  split
  · exact .refl _
  split
  · split
    · exact ((State.sameCourse_updPort _ _ _).trans (State.sameCourse_finish _ _ _)).trans
        (State.sameCourse_leaveTableState _ _)
    · exact State.sameCourse_updPort _ _ _
  · exact .refl _

theorem State.sameCourse_endIfChanged (s : State) (g : Segment) (new : Table) (q : Port) :
    s.SameCourse (s.endIfChanged g new q) := by
  unfold State.endIfChanged
  split
  · exact s.sameCourse_finish q _
  · exact .refl s

theorem State.sameCourse_endChanged (s : State) (g : Segment) (new : Table) : s.SameCourse (s.endChanged g new) :=
  ((s.sameCourse_endIfChanged g new .a).trans (State.sameCourse_endIfChanged _ g new .b)).trans
    (State.sameCourse_endIfChanged _ g new .c)

/-- The completion of the owner at a switchover leaves what the switchover made. -/
theorem State.sameCourse_switchover (s : State) (g : Segment) (new : Table) :
    ((s.endChanged g new).makeLive g new).SameCourse (s.switchover g new) := by
  unfold State.switchover
  dsimp only
  split
  · exact .refl _
  · exact State.sameCourse_finish _ _ _

/-! ### The array after the ends -/

@[simp] theorem State.array_programmed (s : State) (i : Index) (p : Port) (n : Nat) (data : List Byte) (ok : Bool) :
    (s.programmed i p n data ok).array = programSector s.array n (.bytes data) ok := by
  unfold State.programmed
  dsimp only
  split <;> rfl

@[simp] theorem State.inFlight_programmed (s : State) (i : Index) (p : Port) (n : Nat) (data : List Byte) (ok : Bool) :
    (s.programmed i p n data ok).inFlight = none := by
  unfold State.programmed
  dsimp only
  split <;> rfl

@[simp] theorem State.part_programmed (s : State) (i : Index) (p : Port) (n : Nat) (data : List Byte) (ok : Bool) :
    (s.programmed i p n data ok).part = s.part := by
  unfold State.programmed
  dsimp only
  split <;> rfl

@[simp] theorem State.powered_programmed (s : State) (i : Index) (p : Port) (n : Nat) (data : List Byte) (ok : Bool) :
    (s.programmed i p n data ok).powered = s.powered := by
  unfold State.programmed
  dsimp only
  split <;> rfl

@[simp] theorem State.resetLine_programmed (s : State) (i : Index) (p : Port) (n : Nat) (data : List Byte) (ok : Bool) :
    (s.programmed i p n data ok).resetLine = s.resetLine := by
  unfold State.programmed
  dsimp only
  split <;> rfl

theorem State.array_grant (s : State) (p : Port) (e : Entry) (a : Active) (w : Work) :
    (s.grant p e a w).array = s.array := by
  unfold State.grant
  split
  · exact (State.sameCourse_tableFault _ _ _ _).settle.array
  · exact (State.sameCourse_updPort _ _ _).settle.array

theorem State.wf_headerEnd {s : State} (h : Memory.wf s.array = true) (g : Segment) (new : Table) (ok : Bool) :
    Memory.wf (s.headerEnd g new ok).array = true := by
  have programmed := Memory.wf_programSector h (slotSector s.tableSlot 0) (.header new.headerSector) ok
  unfold State.headerEnd
  dsimp only
  split
  · exact programmed
  · rw [(State.sameCourse_tableFault _ _ _ _).settle.array]
    exact programmed

theorem State.wf_recordsEnd {s : State} (h : Memory.wf s.array = true) (g : Segment) (new : Table) (ok : Bool) :
    Memory.wf (s.recordsEnd g new ok).array = true := by
  have programmed := Memory.wf_programSector h (slotSector s.tableSlot 1) (.records new.recordsSector) ok
  unfold State.recordsEnd
  dsimp only
  split
  · rw [(State.sameCourse_switchover _ _ _).settle.array]
    show Memory.wf (State.endChanged _ _ _).array = true
    rw [(State.sameCourse_endChanged _ _ _).array]
    exact programmed
  · rw [(State.sameCourse_tableFault _ _ _ _).settle.array]
    exact programmed

theorem State.array_loadEnd (s : State) (got : List ReadReport) : (s.loadEnd got).array = s.array := by
  unfold State.loadEnd
  split
  · rfl
  · rw [State.array_settle]
    rfl

/-- Every event leaves the array in its canonical form. -/
theorem State.Event.wf {s t : State} (hs : Memory.wf s.array = true) (h : s.Event t) : Memory.wf t.array = true := by
  cases h with
  | nothing => exact hs
  | commandStart p => rwa [(s.sameCourse_commandStart p).array]
  | grant _ _ _ _ => rwa [State.array_grant]
  | readEnd _ _ _ => rwa [(s.sameCourse_readEnd _ _ _).settle.array]
  | checkEnd _ _ _ => rwa [(s.sameCourse_checkEnd _ _ _).settle.array]
  | writeEnd ok _ _ _ =>
    rw [(s.sameCourse_writeEnd _ _ _ _ _ ok).settle.array, State.array_programmed]
    exact Memory.wf_programSector hs _ _ ok
  | blankEnd _ _ _ =>
    rw [(s.sameCourse_blankEnd _ _ _ _).settle.array]
    exact Memory.wf_blankBlock hs _
  | wipeBlockEnd _ _ _ =>
    rw [(s.sameCourse_wipeBlockEnd _ _ _).settle.array]
    exact Memory.wf_blankBlock hs _
  | tableBlankEnd _ _ => exact Memory.wf_blankBlock hs _
  | headerEnd ok _ _ => exact State.wf_headerEnd hs _ _ ok
  | recordsEnd ok _ _ => exact State.wf_recordsEnd hs _ _ ok
  | loadEnd _ => rwa [State.array_loadEnd]
  | standbyExpiry => rwa [s.sameCourse_standbyExpiry.array]
  | wakeEnd => rwa [s.sameCourse_wakeEnd.array]
  | leaseExpiry => rwa [s.sameCourse_leaseExpiry.array]
  | stallExpiry p => rwa [(s.sameCourse_stallExpiry p).array]
  | tick => exact hs
  | resetPort p _ _ => rwa [State.resetPort, State.array_settle]
  | withPrst p level => exact hs
  | partReset begun _ => exact State.wf_cutArray hs begun
  | partResetUnpowered _ => exact hs
  | releaseReset _ => exact hs
  | powerOn begun => exact State.wf_cutArray hs begun
  | powerLoss begun _ => exact State.wf_cutArray hs begun

/-- Settles O6: accesses leave the array, and every event that changes it uses the operations of R4 to R6 and R8, which
keep the sector numbers rising. -/
theorem arrayFormIsKept : Obligations.ArrayFormIsKept := by
  intro s t hs h
  refine step_induction (I := fun s => Memory.wf s.array = true) (J := fun s => Memory.wf s.array = true)
    (fun _ _ h => h) (fun _ _ _ h => h) (fun _ _ _ h => h) ?_ (fun hs e => e.wf hs) h hs
  intro s t p hs e
  rwa [e.sameCourse.array]

end Sys2Proof.Machine

namespace Sys2Proof.Machine

/-! ### LOADING and READY, as the two laws give them together -/

/-- The part is LOADING (R16, R35, R38), with nothing in flight or a read of the load (R35). -/
structure State.Loading (s : State) : Prop where
  part : s.part = .loading
  live : s.live = Table.empty
  tableState : s.tableState = .free
  held : s.held = false
  noneActive : ∀ p, (s.port p).noneActive = true
  openSets : s.openSets = Vector.replicate 8 PortSet.empty
  power : s.power = .ready
  standbyTimer : s.standbyTimer = none
  flight : s.inFlight = none ∨ (∃ got, s.inFlight = some (.load got)) ∧ s.powered = true ∧ s.resetLine = false

/-- The part is READY, with nothing or a segment in flight, which keeps the array READY and the standby timer stopped
(R11, R73). -/
structure State.Serving (s : State) : Prop where
  part : s.part = .ready
  powered : s.powered = true
  resetLine : s.resetLine = false
  flight : s.inFlight = none ∨ (∃ g, s.inFlight = some (.segment g)) ∧ s.power = .ready ∧ s.standbyTimer = none

theorem State.atPorts_iff (s : State) (law : PortUnit → Bool) :
    s.atPorts law = true ↔ ∀ p, law (s.port p) = true := by
  simp only [State.atPorts, Bool.and_eq_true]
  exact ⟨fun ⟨⟨ha, hb⟩, hc⟩ p => by cases p <;> assumption, fun h => ⟨⟨h .a, h .b⟩, h .c⟩⟩

/-- The loading law and the flight law together say that the part is LOADING or serves its ports. -/
theorem State.loading_or_serving_iff (s : State) :
    s.loadingLaw = true ∧ s.flightLaw = true ↔ s.Loading ∨ s.Serving := by
  constructor
  · rintro ⟨loading, flight⟩
    cases part : s.part with
    | loading =>
      simp only [State.loadingLaw, part, Bool.or_eq_true, Bool.and_eq_true, decide_eq_true_eq, reduceCtorEq, false_or,
        Bool.not_eq_true', Option.isNone_iff_eq_none, State.atPorts_iff] at loading
      obtain ⟨⟨⟨⟨⟨⟨live, table⟩, held⟩, active⟩, sets⟩, power⟩, timer⟩ := loading
      refine .inl ⟨part, live, table, held, active, sets, power, timer, ?_⟩
      cases h : s.inFlight with
      | none => exact .inl rfl
      | some x =>
        cases x with
        | load got => exact .inr ⟨⟨got, rfl⟩, by simpa [State.flightLaw, h, part] using flight⟩
        | segment g => simp [State.flightLaw, h, part] at flight
    | ready =>
      cases h : s.inFlight with
      | none =>
        simp only [State.flightLaw, h, part, Bool.or_eq_true, Bool.and_eq_true, decide_eq_true_eq, reduceCtorEq,
          false_or, Bool.not_eq_true'] at flight
        exact .inr ⟨part, flight.1, flight.2, .inl h⟩
      | some x =>
        cases x with
        | load got => simp [State.flightLaw, h, part] at flight
        | segment g =>
          simp only [State.flightLaw, h, part, Bool.and_eq_true, decide_eq_true_eq, Bool.not_eq_true',
            Option.isNone_iff_eq_none, true_and] at flight
          obtain ⟨⟨⟨power, powered⟩, line⟩, timer⟩ := flight
          exact .inr ⟨part, powered, line, .inr ⟨⟨g, h⟩, power, timer⟩⟩
  · rintro (h | h)
    · constructor
      · simp [State.loadingLaw, h.live, h.tableState, h.held, (s.atPorts_iff _).mpr h.noneActive, h.openSets, h.power,
          h.standbyTimer]
      · obtain flight | ⟨⟨got, flight⟩, powered, line⟩ := h.flight
        · simp [State.flightLaw, flight, h.part]
        · simp [State.flightLaw, flight, h.part, powered, line]
    · constructor
      · simp [State.loadingLaw, h.part]
      · obtain flight | ⟨⟨g, flight⟩, power, timer⟩ := h.flight
        · simp [State.flightLaw, flight, h.powered, h.resetLine]
        · simp [State.flightLaw, flight, h.part, h.powered, h.resetLine, power, timer]

/-! ### A port without an ACTIVE entry -/

theorem PortUnit.activeEntry_of_noneActive {u : PortUnit} (h : u.noneActive = true) : u.activeEntry = none := by
  unfold PortUnit.activeEntry
  split
  · rfl
  · rename_i e rest queue
    have : e.active = none := by
      simpa using List.all_eq_true.mp h e (by simp [queue])
    simp [this]

theorem PortUnit.noneActive_issueQueued {u : PortUnit} (h : u.noneActive = true) (tag : Byte)
    (given : Option QueuedCommand) : (u.issueQueued tag given).noneActive = true := by
  unfold PortUnit.issueQueued
  split
  · exact h
  split
  · exact h
  split
  · exact h
  · show (u.queue ++ _).all _ = true
    rw [List.all_append]
    exact Bool.and_eq_true_iff.mpr ⟨h, rfl⟩

theorem PortUnit.noneActive_pop {u : PortUnit} (h : u.noneActive = true) : u.pop.noneActive = true := by
  unfold PortUnit.pop
  split
  · exact h
  · exact h

theorem State.not_mayStart_of_loading {s : State} {p : Port} (h : s.part = .loading) : s.mayStart p = false := by
  simp [State.mayStart, h]

/-! ### LOADING is kept -/

theorem State.Loading.with_ports {s : State} (h : s.Loading) {ports : PerPort PortUnit}
    (active : ∀ p, (ports.get p).noneActive = true) : { s with ports := ports }.Loading :=
  ⟨h.part, h.live, h.tableState, h.held, active, h.openSets, h.power, h.standbyTimer, h.flight⟩

theorem State.Loading.updPort {s : State} (h : s.Loading) {p : Port} {f : PortUnit → PortUnit}
    (active : (f (s.port p)).noneActive = true) : (s.updPort p f).Loading := by
  refine h.with_ports fun q => ?_
  by_cases hq : q = p
  · subst hq
    simpa using active
  · rw [PerPort.get_set_of_ne _ _ hq]
    exact h.noneActive q

theorem State.Loading.answer {s : State} (h : s.Loading) (p : Port) (ws : Vector Word 8) : (s.answer p ws).Loading :=
  h.updPort (h.noneActive p)

theorem State.Loading.activeEntry {s : State} (h : s.Loading) (p : Port) : (s.port p).activeEntry = none :=
  PortUnit.activeEntry_of_noneActive (h.noneActive p)

theorem State.Loading.settle {s : State} (h : s.Loading) : s.settle.Loading where
  part := s.part_settle.trans h.part
  live := s.live_settle.trans h.live
  tableState := s.tableState_settle.trans h.tableState
  held := s.held_settle.trans h.held
  noneActive p := by
    rw [State.port_settle]
    exact h.noneActive p
  openSets := s.openSets_settle.trans h.openSets
  power := State.power_settle_of_ready h.power
  standbyTimer := State.standbyTimer_settle_of_loading h.part
  flight := by
    rw [State.inFlight_settle, State.powered_settle, State.resetLine_settle]
    exact h.flight

theorem State.Loading.intervalChanged {s : State} (h : s.Loading) (old : Nat) : (s.intervalChanged old).Loading := by
  unfold State.intervalChanged
  split
  · exact h
  · exact ⟨h.part, h.live, h.tableState, h.held, h.noneActive, h.openSets, h.power,
      congrArg restartTimer h.standbyTimer, h.flight⟩

theorem State.Loading.edit {s : State} (h : s.Loading) (p : Port) (f : Table → Nat ⊕ Table) : (s.edit p f).Loading := by
  unfold State.edit
  rw [if_pos h.part]
  exact h.answer p _

theorem State.Loading.refuseData {s : State} (h : s.Loading) (p : Port) : (s.refuseData p).Loading :=
  h.updPort (h.noneActive p)

theorem State.Loading.output {s : State} (h : s.Loading) (p : Port) (w : Word) : (s.output p w).Loading :=
  h.updPort (h.noneActive p)

/-- While LOADING an ABORT finds QUEUED entries only. -/
theorem State.Loading.abort {s : State} (h : s.Loading) (p : Port) : (s.abort p).Loading := by
  unfold State.abort
  split
  · exact h.answer p _
  split
  · exact h.answer p _
  rename_i e found
  have queued : e.active = none := by
    simpa using List.all_eq_true.mp (h.noneActive p) e (List.mem_of_find?_eq_some found)
  rw [queued]
  refine State.Loading.answer (h.updPort ?_) p _
  exact List.all_eq_true.mpr fun x hx => List.all_eq_true.mp (h.noneActive p) x (List.mem_of_mem_eraseP hx)

theorem State.Loading.setup {s : State} (h : s.Loading) (p : Port) : (s.setup p).Loading := by
  unfold State.setup
  dsimp only
  split
  · split
    · exact ((State.Loading.updPort h (h.noneActive p)).intervalChanged _).settle
    · exact h.answer p _
  · exact h.answer p _

/-- Every access of a window while LOADING leaves what holds then: no claim, no hold, no open set, nothing ACTIVE. -/
theorem State.WindowEffect.loading {s t : State} {p : Port} (h : s.Loading) (e : s.WindowEffect p t) : t.Loading := by
  cases e with
  | nothing => exact h
  | issueQueued tag _ => exact h.updPort (PortUnit.noneActive_issueQueued (h.noneActive p) tag _)
  | badCommand => exact h.answer p _
  | claim => simpa [State.claim, h.part] using h.answer p _
  | discard => simpa [State.discard, h.part] using h.answer p _
  | define => exact h.edit p _
  | delete => exact h.edit p _
  | resize => exact h.edit p _
  | modify => exact h.edit p _
  | close => simpa [State.close, h.part] using h.answer p _
  | hold => simpa [State.takeHold, h.part] using h.answer p _
  | stageKey => exact h.updPort (h.noneActive p)
  | abort => exact h.abort p
  | pop => exact h.updPort (PortUnit.noneActive_pop (h.noneActive p))
  | watch => simpa [State.watch, h.part] using h.answer p _
  | notices => exact h.updPort (h.noneActive p)
  | info =>
    unfold State.info
    dsimp only
    repeat' split
    all_goals exact h.answer p _
  | setup => exact h.setup p
  | dataWrite w => simpa [State.dataWrite, h.activeEntry p] using h.refuseData p
  | dataRead =>
    have empty : s.dataRead p = s.emptyRead p := by simp [State.dataRead, h.activeEntry p]
    rw [empty]
    exact (h.refuseData p).output p 0
  | eventsWrite w => exact h.updPort (h.noneActive p)
  | enableWrite w => exact h.updPort (h.noneActive p)
  | paramWrite loc w =>
    unfold State.paramWrite
    split
    · exact h.updPort (h.noneActive p)
    · exact h
  | output w => exact h.output p w

/-! ### READY is kept -/

/-- What keeps the course keeps the part serving. -/
theorem State.Serving.of_sameCourse {s t : State} (h : s.Serving) (c : s.SameCourse t) : t.Serving where
  part := c.part.trans h.part
  powered := c.powered.trans h.powered
  resetLine := c.resetLine.trans h.resetLine
  flight := by
    rw [c.inFlight]
    obtain flight | ⟨⟨g, flight⟩, power, timer⟩ := h.flight
    · exact .inl flight
    · exact .inr ⟨⟨g, flight⟩, c.busy (by simp [flight]) power timer⟩

/-- The part still serves when its operation has ended. -/
theorem State.Serving.of_landed {s t : State} (h : s.Serving) (part : t.part = s.part) (powered : t.powered = s.powered)
    (line : t.resetLine = s.resetLine) (flight : t.inFlight = none) : t.Serving :=
  ⟨part.trans h.part, powered.trans h.powered, line.trans h.resetLine, .inl flight⟩

/-- A segment in flight over a READY array: settling stops the standby timer. -/
theorem State.serving_settle_of_segment {s : State} {g : Segment} (part : s.part = .ready) (powered : s.powered = true)
    (line : s.resetLine = false) (flight : s.inFlight = some (.segment g)) (power : s.power = .ready) :
    s.settle.Serving where
  part := s.part_settle.trans part
  powered := s.powered_settle.trans powered
  resetLine := s.resetLine_settle.trans line
  flight := .inr ⟨⟨g, s.inFlight_settle.trans flight⟩, State.power_settle_of_ready power,
    State.standbyTimer_settle_of_inFlight (by simp [flight])⟩

theorem State.Serving.settle {s : State} (h : s.Serving) : s.settle.Serving := h.of_sameCourse s.sameCourse_settle

/-- The arbiter may grant only with no operation in flight and the array READY (R72). -/
theorem State.mayGrant_iff (s : State) :
    s.mayGrant = true ↔ s.inFlight = none ∧ s.part = .ready ∧ s.power = .ready := by
  simp [State.mayGrant, and_assoc]

theorem State.Serving.grant {s : State} (h : s.Serving) (may : s.mayGrant = true) (p : Port) (e : Entry) (a : Active)
    (w : Work) : (s.grant p e a w).Serving := by
  obtain ⟨flight, part, power⟩ := s.mayGrant_iff.mp may
  unfold State.grant
  split
  · have landed : { s with lastGranted := p, standbyTimer := none }.Serving := h.of_landed rfl rfl rfl flight
    exact landed.of_sameCourse (State.sameCourse_tableFault _ p e.cmd false).settle
  · exact State.serving_settle_of_segment part h.powered h.resetLine rfl power

/-- The next operation of a segment in flight (R26). -/
theorem State.Serving.goOn {s : State} (h : s.Serving) {g : Segment} (flight : s.inFlight = some (.segment g))
    (w : Work) (array : Memory) : (s.goOn g w array).Serving := by
  obtain none | ⟨_, power, timer⟩ := h.flight
  · simp [none] at flight
  · exact ⟨h.part, h.powered, h.resetLine, .inr ⟨⟨_, rfl⟩, power, timer⟩⟩

theorem State.Serving.headerEnd {s : State} (h : s.Serving) {g : Segment} (flight : s.inFlight = some (.segment g))
    (new : Table) (ok : Bool) : (s.headerEnd g new ok).Serving := by
  unfold State.headerEnd
  dsimp only
  split
  · exact h.goOn flight _ _
  · refine State.Serving.of_sameCourse ?_ (State.sameCourse_tableFault _ _ _ _).settle
    exact h.of_landed rfl rfl rfl rfl

theorem State.Serving.recordsEnd {s : State} (h : s.Serving) (g : Segment) (new : Table) (ok : Bool) :
    (s.recordsEnd g new ok).Serving := by
  unfold State.recordsEnd
  dsimp only
  split
  · refine State.Serving.of_sameCourse ?_ (State.sameCourse_switchover _ _ _).settle
    have landed : State.Serving
        { s.landed with array := programSector s.array (slotSector s.tableSlot 1) (.records new.recordsSector) ok } :=
      h.of_landed rfl rfl rfl rfl
    have ended := landed.of_sameCourse (State.sameCourse_endChanged _ g new)
    exact ⟨ended.part, ended.powered, ended.resetLine, ended.flight⟩
  · refine State.Serving.of_sameCourse ?_ (State.sameCourse_tableFault _ _ _ _).settle
    exact h.of_landed rfl rfl rfl rfl

theorem State.inFlight_clearPort (s : State) (p : Port) :
    (s.clearPort p).inFlight = s.inFlight.map (InFlight.removeOwner p) := rfl

theorem State.Serving.resetPort {s : State} (h : s.Serving) (p : Port) : (s.resetPort p).Serving := by
  unfold State.resetPort
  dsimp only
  obtain flight | ⟨⟨g, flight⟩, power, timer⟩ := h.flight
  · refine State.Serving.settle (h.of_landed rfl rfl rfl ?_)
    rw [State.inFlight_updPort, State.inFlight_clearPort, flight]
    rfl
  · refine State.serving_settle_of_segment (g := if g.port = p then { g with removed := true } else g)
      h.part h.powered h.resetLine ?_ power
    rw [State.inFlight_updPort, State.inFlight_clearPort, flight]
    rfl

/-! ### The load, the port reset and the part reset -/

theorem State.Loading.resetPort {s : State} (h : s.Loading) (p : Port) : (s.resetPort p).Loading := by
  have cleared : (s.clearPort p).Loading := by
    refine ⟨h.part, h.live, ?_, h.held, ?_, ?_, h.power, h.standbyTimer, ?_⟩
    · simp [State.clearPort, State.tableStateAfterReset, h.tableState]
    · intro q
      by_cases hq : q = p
      · subst hq
        simp [State.clearPort, State.port, PortUnit.afterReset, PortUnit.reset, PortUnit.noneActive]
      · show ((s.ports.set p _).get q).noneActive = true
        rw [PerPort.get_set_of_ne _ _ hq]
        exact h.noneActive q
    · show (Vector.ofFn fun i : Fin 8 => (s.openSets[i]).set p false) = _
      ext i hi
      cases p <;> simp [h.openSets, PortSet.empty, PerPort.set]
    · rw [State.inFlight_clearPort]
      obtain flight | ⟨⟨got, flight⟩, lines⟩ := h.flight
      · exact .inl (by simp [flight])
      · exact .inr ⟨⟨got, by simp [flight, InFlight.removeOwner]⟩, lines⟩
  exact (cleared.updPort (cleared.noneActive p)).settle

/-- A part reset and the supply leave a part that is LOADING, whatever went before. -/
theorem State.loading_wiped (s : State) (begun : Bool) : (s.wiped begun).Loading := by
  refine ⟨rfl, rfl, rfl, rfl, ?_, rfl, rfl, rfl, .inl rfl⟩
  intro p
  show PortUnit.noneActive ((PerPort.mapPorts _ _).get p) = true
  rw [PerPort.get_mapPorts]
  rfl

theorem State.Loading.with_lines {s : State} (h : s.Loading) {powered line : Bool} {load : Option InFlight}
    (flight : load = none ∨ (∃ got, load = some (.load got)) ∧ powered = true ∧ line = false) :
    { s with powered := powered, resetLine := line, inFlight := load }.Loading :=
  ⟨h.part, h.live, h.tableState, h.held, h.noneActive, h.openSets, h.power, h.standbyTimer, flight⟩

/-- Power-on begins the load, unless RESET holds it back (R35, R183). -/
theorem State.loading_powerOn (s : State) (begun : Bool) :
    { s.wiped begun with powered := true, inFlight := startLoad s.resetLine }.Loading := by
  refine (s.loading_wiped begun).with_lines ?_
  cases line : s.resetLine with
  | true => exact .inl rfl
  | false => exact .inr ⟨⟨[], rfl⟩, rfl, line⟩

/-- While RESET is asserted no read of the load is in flight. -/
theorem State.Loading.idle_of_resetLine {s : State} (h : s.Loading) (line : s.resetLine = true) : s.inFlight = none := by
  obtain flight | ⟨_, _, released⟩ := h.flight
  · exact flight
  · simp [line] at released

/-- Without supply no read of the load is in flight. -/
theorem State.Loading.idle_of_unpowered {s : State} (h : s.Loading) (off : s.powered = false) : s.inFlight = none := by
  obtain flight | ⟨_, powered, _⟩ := h.flight
  · exact flight
  · simp [off] at powered

/-- While LOADING no segment is in flight. -/
theorem State.Loading.no_segment {s : State} (h : s.Loading) {g : Segment} (flight : s.inFlight = some (.segment g)) :
    False := by
  obtain none | ⟨⟨got, load⟩, _⟩ := h.flight
  · simp [none] at flight
  · simp [load] at flight

/-- The load goes on, or its fourth read makes the part READY (R35 to R37). -/
theorem State.Loading.loadEnd {s : State} (h : s.Loading) {got : List ReadReport}
    (flight : s.inFlight = some (.load got)) (reports : List ReadReport) :
    (s.loadEnd reports).Loading ∨ (s.loadEnd reports).Serving := by
  obtain none | ⟨_, powered, line⟩ := h.flight
  · simp [none] at flight
  unfold State.loadEnd
  split
  · exact .inl (h.with_lines (.inr ⟨⟨reports, rfl⟩, powered, line⟩))
  · exact .inr (State.Serving.settle ⟨rfl, powered, line, .inl rfl⟩)

/-! ### Both laws over a step -/

/-- Every event while LOADING leaves the part LOADING but the fourth read of the load, which makes it READY. -/
theorem State.Event.loading {s t : State} (h : s.Loading) (e : s.Event t) : t.Loading ∨ t.Serving := by
  cases e with
  | nothing => exact .inl h
  | commandStart p =>
    have : s.commandStart p = s := by simp [State.commandStart, State.not_mayStart_of_loading h.part]
    exact .inl (this.symm ▸ h)
  | grant may _ _ _ =>
    have ready := (s.mayGrant_iff.mp may).2.1
    simp [h.part] at ready
  | readEnd flight _ _ => exact (h.no_segment flight).elim
  | checkEnd flight _ _ => exact (h.no_segment flight).elim
  | writeEnd _ flight _ _ => exact (h.no_segment flight).elim
  | blankEnd flight _ _ => exact (h.no_segment flight).elim
  | wipeBlockEnd flight _ _ => exact (h.no_segment flight).elim
  | tableBlankEnd flight _ => exact (h.no_segment flight).elim
  | headerEnd _ flight _ => exact (h.no_segment flight).elim
  | recordsEnd _ flight _ => exact (h.no_segment flight).elim
  | loadEnd flight => exact h.loadEnd flight _
  | standbyExpiry =>
    rw [State.standbyExpiry_of_not_due (by simp [State.standbyDue, h.standbyTimer])]
    exact .inl h
  | wakeEnd => exact .inl (by simpa [State.wakeEnd, h.power] using h)
  | leaseExpiry =>
    rw [State.leaseExpiry_of_not_due (by simp [State.leaseDue, h.tableState])]
    exact .inl h
  | stallExpiry p =>
    refine .inl ?_
    unfold State.stallExpiry
    split
    · rw [State.finish_of_idle _ (h.activeEntry p)]
      exact h.settle
    · exact h
  | tick =>
    refine .inl ⟨h.part, h.live, ?_, h.held, ?_, h.openSets, h.power, ?_, h.flight⟩
    · simp [State.tick, h.tableState]
    · intro p
      rw [State.port_tick]
      exact h.noneActive p
    · simp [State.tick, h.standbyTimer]
  | resetPort p _ _ => exact .inl (h.resetPort p)
  | withPrst p level => exact .inl (h.updPort (h.noneActive p))
  | partReset begun _ => exact .inl ((s.loading_wiped begun).with_lines (.inl rfl))
  | partResetUnpowered off => exact .inl (h.with_lines (.inl (h.idle_of_unpowered off)))
  | releaseReset line =>
    refine .inl (h.with_lines ?_)
    cases powered : s.powered with
    | true => exact .inr ⟨⟨[], rfl⟩, rfl, rfl⟩
    | false => exact .inl (h.idle_of_resetLine line)
  | powerOn begun => exact .inl (s.loading_powerOn begun)
  | powerLoss begun _ => exact .inl ((s.loading_wiped begun).with_lines (.inl rfl))

/-- Every event while READY leaves the part READY, but a reset or the loss of the supply, which leave it LOADING. -/
theorem State.Event.serving {s t : State} (h : s.Serving) (e : s.Event t) : t.Loading ∨ t.Serving := by
  have landed : s.landed.Serving := h.of_landed rfl rfl rfl rfl
  cases e with
  | nothing => exact .inr h
  | commandStart p => exact .inr (h.of_sameCourse (s.sameCourse_commandStart p))
  | grant may _ _ _ => exact .inr (h.grant may _ _ _ _)
  | readEnd _ _ _ => exact .inr (landed.of_sameCourse (s.sameCourse_readEnd _ _ _).settle)
  | checkEnd _ _ _ => exact .inr (landed.of_sameCourse (s.sameCourse_checkEnd _ _ _).settle)
  | writeEnd ok _ _ _ =>
    refine .inr (State.Serving.of_sameCourse ?_ (s.sameCourse_writeEnd _ _ _ _ _ ok).settle)
    exact h.of_landed (by simp) (by simp) (by simp) (by simp)
  | blankEnd _ _ _ =>
    refine .inr (State.Serving.of_sameCourse ?_ (s.sameCourse_blankEnd _ _ _ _).settle)
    exact h.of_landed rfl rfl rfl rfl
  | wipeBlockEnd _ _ _ =>
    refine .inr (State.Serving.of_sameCourse ?_ (s.sameCourse_wipeBlockEnd _ _ _).settle)
    exact h.of_landed rfl rfl rfl rfl
  | tableBlankEnd flight _ => exact .inr (h.goOn flight _ _)
  | headerEnd ok flight _ => exact .inr (h.headerEnd flight _ ok)
  | recordsEnd ok _ _ => exact .inr (h.recordsEnd _ _ ok)
  | loadEnd flight =>
    obtain none | ⟨⟨g, segment⟩, _⟩ := h.flight
    · simp [none] at flight
    · simp [segment] at flight
  | standbyExpiry => exact .inr (h.of_sameCourse s.sameCourse_standbyExpiry)
  | wakeEnd => exact .inr (h.of_sameCourse s.sameCourse_wakeEnd)
  | leaseExpiry => exact .inr (h.of_sameCourse s.sameCourse_leaseExpiry)
  | stallExpiry p => exact .inr (h.of_sameCourse (s.sameCourse_stallExpiry p))
  | tick => exact .inr (h.of_sameCourse s.sameCourse_tick)
  | resetPort p _ _ => exact .inr (h.resetPort p)
  | withPrst p level => exact .inr (h.of_sameCourse (s.sameCourse_updPort p _))
  | partReset begun _ => exact .inl ((s.loading_wiped begun).with_lines (.inl rfl))
  | partResetUnpowered off => simp [h.powered] at off
  | releaseReset line => simp [h.resetLine] at line
  | powerOn begun => exact .inl (s.loading_powerOn begun)
  | powerLoss begun _ => exact .inl ((s.loading_wiped begun).with_lines (.inl rfl))

/-- The two laws do not see the waiting commands or port C's frame. -/
theorem State.loading_or_serving_with {s : State} (h : s.Loading ∨ s.Serving) (l : List Instr) (f : Option Frame)
    (b : Bool) :
    { s with pending := l, frame := f, selected := b }.Loading ∨
      { s with pending := l, frame := f, selected := b }.Serving :=
  h.imp
    (fun h => ⟨h.part, h.live, h.tableState, h.held, h.noneActive, h.openSets, h.power, h.standbyTimer, h.flight⟩)
    (fun h => ⟨h.part, h.powered, h.resetLine, h.flight⟩)

/-- Settles O13: the two laws together are "LOADING or serving", which every access keeps and every event keeps or
exchanges. -/
theorem loadingAndFlightLawsAreKept : Obligations.LoadingAndFlightLawsAreKept := by
  intro s t loading flight h
  refine (State.loading_or_serving_iff t).mpr ?_
  refine step_induction (I := fun s => s.Loading ∨ s.Serving) (J := fun s => s.Loading ∨ s.Serving)
    (fun s l h => State.loading_or_serving_with h l s.frame s.selected)
    (fun s f b h => State.loading_or_serving_with h s.pending f b)
    (fun s f b h => State.loading_or_serving_with h s.pending f b) ?_ ?_ h
    ((State.loading_or_serving_iff s).mp ⟨loading, flight⟩)
  · rintro s t p (h | h) e
    · exact .inl (e.loading h)
    · exact .inr (h.of_sameCourse e.sameCourse)
  · rintro s t (h | h) e
    · exact e.loading h
    · exact e.serving h

end Sys2Proof.Machine

namespace Sys2Proof.Machine

/-! ### What the timers and the wake depend on (R11, R15, R80) -/

/-- Two port units with the same ACTIVE entry, buffers and SETUP figures. -/
structure PortUnit.SameDemand (u v : PortUnit) : Prop where
  activeEntry : v.activeEntry = u.activeEntry
  transfers : v.transfers = u.transfers
  guarantee : v.guarantee = u.guarantee
  limit : v.limit = u.limit
  vote : v.vote = u.vote
  stallSetting : v.stallSetting = u.stallSetting

/-- From `s` to `t` nothing changes that decides which command is eligible or waits on its data side. -/
structure State.SameDemand (s t : State) : Prop where
  part : t.part = s.part
  live : t.live = s.live
  isNone_inFlight : t.inFlight.isNone = s.inFlight.isNone
  ownSegment : ∀ p, t.ownSegment p = s.ownSegment p
  port : ∀ p, (s.port p).SameDemand (t.port p)

theorem PortUnit.SameDemand.holding {u v : PortUnit} (h : u.SameDemand v) : v.holding = u.holding :=
  congrArg List.length h.transfers

theorem State.SameDemand.unmet {s t : State} (h : s.SameDemand t) (p : Port) :
    (t.port p).unmet = (s.port p).unmet := by
  simp [PortUnit.unmet, (h.port p).guarantee, (h.port p).holding]

theorem State.SameDemand.freeCount {s t : State} (h : s.SameDemand t) : t.freeCount = s.freeCount := by
  simp [State.freeCount, State.heldCount, (h.port _).holding]

theorem State.SameDemand.othersUnmet {s t : State} (h : s.SameDemand t) (p : Port) :
    t.othersUnmet p = s.othersUnmet p := by
  cases p <;> simp [State.othersUnmet, h.unmet]

theorem State.SameDemand.mayTake {s t : State} (h : s.SameDemand t) (p : Port) : t.mayTake p = s.mayTake p := by
  rw [Bool.eq_iff_iff, State.mayTake_iff, State.mayTake_iff, h.freeCount, h.othersUnmet, (h.port p).holding,
    (h.port p).limit, (h.port p).guarantee]

theorem State.SameDemand.interval {s t : State} (h : s.SameDemand t) : t.interval = s.interval := by
  simp [State.interval, (h.port _).vote]

theorem State.SameDemand.record {s t : State} (h : s.SameDemand t) (i : Index) : t.record i = s.record i := by
  simp [State.record, h.live]

theorem PortUnit.SameDemand.oldestIs {u v : PortUnit} (h : u.SameDemand v) (st : BufferState) :
    v.oldestIs st = u.oldestIs st := by
  simp [PortUnit.oldestIs, h.transfers]

/-- Whether an ACTIVE entry has work does not depend on which table its segment would write: both states split on the
same command, progress, record and condition. -/
theorem State.SameDemand.isSome_workOf {s t : State} (h : s.SameDemand t) (p : Port) (e : Entry) (a : Active) :
    (t.workOf p e a).isSome = (s.workOf p e a).isSome := by
  obtain ⟨tag, cmd, active⟩ := e
  obtain ⟨progress, abortPending⟩ := a
  unfold State.workOf
  simp only [h.record, h.mayTake, (h.port p).oldestIs, PortUnit.oldestData, (h.port p).transfers]
  split
  all_goals grind

theorem State.SameDemand.eligible {s t : State} (h : s.SameDemand t) (p : Port) : t.eligible p = s.eligible p := by
  unfold State.eligible State.nextWork
  rw [(h.port p).activeEntry, h.ownSegment p]
  cases (s.port p).activeEntry with
  | none => rfl
  | some x =>
    cases s.ownSegment p with
    | true => rfl
    | false => simpa using h.isSome_workOf p x.1 x.2

theorem State.SameDemand.wantsGrant {s t : State} (h : s.SameDemand t) : t.wantsGrant = s.wantsGrant := by
  simp [State.wantsGrant, State.anyEligible, h.isNone_inFlight, h.part, h.eligible]

theorem State.SameDemand.waitsOnData {s t : State} (h : s.SameDemand t) (p : Port) :
    t.waitsOnData p = s.waitsOnData p := by
  unfold State.waitsOnData
  simp only [(h.port p).activeEntry, h.ownSegment p, (h.port p).oldestIs, (h.port p).transfers, h.mayTake p]

/-- The wake and the timers do not change what they depend on. -/
theorem State.sameDemand_timers (s : State) (power : PowerState) (timer : Option Nat) :
    s.SameDemand { s with power := power, standbyTimer := timer } :=
  ⟨rfl, rfl, rfl, fun _ => rfl, fun _ => ⟨rfl, rfl, rfl, rfl, rfl, rfl⟩⟩

theorem State.sameDemand_wakeIfWanted_followStandby (s : State) : s.SameDemand s.wakeIfWanted.followStandby := by
  unfold State.wakeIfWanted
  split
  · exact s.sameDemand_timers _ _
  · exact s.sameDemand_timers s.power _

/-- Settling gives each port's stall timer R80's condition, on the state as it was. -/
theorem State.port_settle_eq (s : State) (p : Port) :
    s.settle.port p =
      { s.port p with
        stallTimer :=
          followTimer (decide ((s.port p).stallSetting ≠ 0) && s.waitsOnData p) (s.port p).stallTimer } := by
  rw [State.port_settle, s.sameDemand_wakeIfWanted_followStandby.waitsOnData]

theorem State.sameDemand_settle (s : State) : s.SameDemand s.settle where
  part := s.part_settle
  live := s.live_settle
  isNone_inFlight := congrArg Option.isNone s.inFlight_settle
  ownSegment p := by simp [State.ownSegment]
  port p := by
    rw [State.port_settle]
    exact ⟨rfl, rfl, rfl, rfl, rfl, rfl⟩

/-! ### Settling brings the timers to their conditions -/

/-- When the standby timer may run (R11). -/
theorem State.idleTimed_iff (s : State) :
    s.idleTimed = true ↔ s.power = .ready ∧ s.inFlight = none ∧ s.part = .ready ∧ s.interval ≠ 0 := by
  simp [State.idleTimed, and_assoc]

/-- The three conditions of R11, R80 and R15, one by one. -/
theorem State.timersFollow_iff (s : State) :
    s.timersFollow = true ↔
      s.standbyTimer.isSome = (s.idleTimed && (s.standbyTimer.isSome || !s.wantsGrant)) ∧
        (∀ p, s.stallFollows p = true) ∧ ¬ (s.power = .standby ∧ s.wantsGrant = true) := by
  have ports : (∀ p, s.stallFollows p = true) ↔
      s.stallFollows .a = true ∧ s.stallFollows .b = true ∧ s.stallFollows .c = true :=
    ⟨fun h => ⟨h .a, h .b, h .c⟩, fun ⟨ha, hb, hc⟩ p => by cases p <;> assumption⟩
  rw [ports]
  simp only [State.timersFollow, Bool.and_eq_true, decide_eq_true_eq, Bool.not_eq_true', Bool.and_eq_false_iff,
    decide_eq_false_iff_not, not_and_or, Bool.not_eq_true, and_assoc]

theorem State.stallFollows_iff (s : State) (p : Port) :
    s.stallFollows p = true ↔
      (s.port p).stallTimer.isSome = (decide ((s.port p).stallSetting ≠ 0) && s.waitsOnData p) := by
  simp only [State.stallFollows, decide_eq_true_eq]

theorem State.idleTimed_wakeIfWanted (s : State) : s.wakeIfWanted.idleTimed = s.idleTimed := by
  unfold State.wakeIfWanted
  split
  · rename_i h
    simp [State.idleTimed, h.1]
  · rfl

theorem State.idleTimed_settle (s : State) : s.settle.idleTimed = s.idleTimed := by
  have power : s.settle.power = s.wakeIfWanted.power := rfl
  have awake := s.idleTimed_wakeIfWanted
  rw [Bool.eq_iff_iff, State.idleTimed_iff, State.idleTimed_iff] at awake ⊢
  simpa only [power, State.inFlight_wakeIfWanted, State.part_wakeIfWanted, State.interval_wakeIfWanted,
    State.inFlight_settle, State.part_settle, s.sameDemand_settle.interval] using awake

theorem State.standbyTimer_settle (s : State) :
    s.settle.standbyTimer = followTimer (s.idleTimed && (s.standbyTimer.isSome || !s.wantsGrant)) s.standbyTimer := by
  have wanted : s.wakeIfWanted.wantsGrant = s.wantsGrant := by
    unfold State.wakeIfWanted
    split
    · exact (s.sameDemand_timers .waking s.standbyTimer).wantsGrant
    · rfl
  show s.wakeIfWanted.followStandby.standbyTimer = _
  simp only [State.followStandby, State.idleTimed_wakeIfWanted, State.standbyTimer_wakeIfWanted, wanted]

@[simp] theorem isSome_followTimer (runs : Bool) (timer : Option Nat) : (followTimer runs timer).isSome = runs := by
  cases runs <;> rfl

/-- An array in STANDBY whose grant is wanted wakes, so after settling none is left. -/
theorem State.power_settle_ne_standby {s : State} (h : s.wantsGrant = true) : s.settle.power ≠ .standby := by
  show s.wakeIfWanted.power ≠ .standby
  unfold State.wakeIfWanted
  split
  · simp
  · rename_i awake
    exact fun standby => awake ⟨standby, h⟩

/-- After settling the timers follow their conditions, whatever the state was. -/
theorem State.timersFollow_settle (s : State) : s.settle.timersFollow = true := by
  refine s.settle.timersFollow_iff.mpr ⟨?_, fun p => ?_, ?_⟩
  · rw [State.standbyTimer_settle, isSome_followTimer, s.sameDemand_settle.wantsGrant, State.idleTimed_settle]
    cases s.idleTimed <;> simp
  · simp [State.stallFollows_iff, State.port_settle_eq, s.sameDemand_settle.waitsOnData p]
  · rw [s.sameDemand_settle.wantsGrant]
    exact fun ⟨standby, wanted⟩ => State.power_settle_ne_standby wanted standby

/-! ### What leaves the timers and their conditions as they are -/

/-- From `s` to `t` neither a timer's condition nor whether it runs changes. -/
structure State.SameTimers (s t : State) : Prop extends s.SameDemand t where
  power : t.power = s.power
  standbyTimer : t.standbyTimer.isSome = s.standbyTimer.isSome
  stallTimer : ∀ p, (t.port p).stallTimer.isSome = (s.port p).stallTimer.isSome

theorem State.SameTimers.timersFollow {s t : State} (h : s.SameTimers t) : t.timersFollow = s.timersFollow := by
  have flight : t.inFlight = none ↔ s.inFlight = none := by
    rw [← Option.isNone_iff_eq_none, ← Option.isNone_iff_eq_none, h.isNone_inFlight]
  have idle : t.idleTimed = s.idleTimed := by
    rw [Bool.eq_iff_iff, State.idleTimed_iff, State.idleTimed_iff, h.power, flight, h.part, h.interval]
  have stall : ∀ p, t.stallFollows p = s.stallFollows p := by
    intro p
    rw [Bool.eq_iff_iff, State.stallFollows_iff, State.stallFollows_iff, h.stallTimer, (h.port p).stallSetting,
      h.waitsOnData]
  rw [Bool.eq_iff_iff, State.timersFollow_iff, State.timersFollow_iff]
  simp only [h.standbyTimer, idle, h.wantsGrant, stall, h.power]

/-- Two port units that are alike for the timers. -/
structure PortUnit.SameTimers (u v : PortUnit) : Prop extends u.SameDemand v where
  stallTimer : v.stallTimer.isSome = u.stallTimer.isSome

theorem PortUnit.SameTimers.refl (u : PortUnit) : u.SameTimers u := ⟨⟨rfl, rfl, rfl, rfl, rfl, rfl⟩, rfl⟩

/-- The table state, the hold, the open sets and one port unit change, the latter beside its timers. -/
theorem State.sameTimers_updPort_with (s : State) (tableState : TableState) (held : Bool)
    (openSets : PerIndex PortSet) {p : Port} {f : PortUnit → PortUnit} (h : (s.port p).SameTimers (f (s.port p))) :
    s.SameTimers ({ s with tableState := tableState, held := held, openSets := openSets }.updPort p f) := by
  have unit : ∀ q, (s.port q).SameTimers ((s.updPort p f).port q) := by
    intro q
    by_cases hq : q = p
    · subst hq
      rwa [State.port_updPort_same]
    · rw [State.port_updPort_of_ne _ _ hq]
      exact .refl _
  exact ⟨⟨rfl, rfl, rfl, fun _ => rfl, fun q => (unit q).toSameDemand⟩, rfl, rfl, fun q => (unit q).stallTimer⟩

theorem State.sameTimers_updPort (s : State) {p : Port} {f : PortUnit → PortUnit}
    (h : (s.port p).SameTimers (f (s.port p))) : s.SameTimers (s.updPort p f) :=
  s.sameTimers_updPort_with s.tableState s.held s.openSets h

/-- An answer, with the table state, the hold and the open sets changed before it. -/
theorem State.sameTimers_answer_with (s : State) (tableState : TableState) (held : Bool)
    (openSets : PerIndex PortSet) (p : Port) (ws : Vector Word 8) :
    s.SameTimers ({ s with tableState := tableState, held := held, openSets := openSets }.answer p ws) :=
  s.sameTimers_updPort_with _ _ _ ⟨⟨rfl, rfl, rfl, rfl, rfl, rfl⟩, rfl⟩

theorem State.sameTimers_answer (s : State) (p : Port) (ws : Vector Word 8) : s.SameTimers (s.answer p ws) :=
  s.sameTimers_answer_with s.tableState s.held s.openSets p ws

theorem State.SameTimers.refl (s : State) : s.SameTimers s :=
  ⟨⟨rfl, rfl, rfl, fun _ => rfl, fun _ => ⟨rfl, rfl, rfl, rfl, rfl, rfl⟩⟩, rfl, rfl, fun _ => rfl⟩

theorem State.SameTimers.follows {s t : State} (c : s.SameTimers t) (h : s.timersFollow = true) :
    t.timersFollow = true := c.timersFollow.trans h

/-! ### Accesses of the window -/

/-- The entry that an issue appends is QUEUED, so the ACTIVE entry stays. -/
theorem PortUnit.sameTimers_issueQueued (u : PortUnit) (tag : Byte) (given : Option QueuedCommand) :
    u.SameTimers (u.issueQueued tag given) := by
  unfold PortUnit.issueQueued
  split
  · exact ⟨⟨rfl, rfl, rfl, rfl, rfl, rfl⟩, rfl⟩
  split
  · exact ⟨⟨rfl, rfl, rfl, rfl, rfl, rfl⟩, rfl⟩
  split
  · exact ⟨⟨rfl, rfl, rfl, rfl, rfl, rfl⟩, rfl⟩
  · refine ⟨⟨?_, rfl, rfl, rfl, rfl, rfl⟩, rfl⟩
    cases queue : u.queue <;> simp [PortUnit.activeEntry, PortUnit.accept, queue]

/-- Removing the QUEUED entry of a tag keeps the ACTIVE entry: behind the oldest every entry is QUEUED (R60). -/
theorem PortUnit.activeEntry_eraseP {u : PortUnit} (law : u.queueLaw = true) {tag : Byte} {e : Entry}
    (found : (u.queue.find? fun e => decide (e.tag = tag)) = some e) (queued : e.active = none) :
    PortUnit.activeEntry { u with queue := u.queue.eraseP fun e => decide (e.tag = tag) } = u.activeEntry := by
  cases queue : u.queue with
  | nil => simp [queue] at found
  | cons x rest =>
    by_cases hx : x.tag = tag
    · have hxe : x = e := by simpa [queue, hx] using found
      have behind : rest.all (fun e => e.active.isNone) = true := by
        simp only [PortUnit.queueLaw, queue, Bool.and_eq_true] at law
        exact law.1.2
      have none : u.activeEntry = none := by simp [PortUnit.activeEntry, queue, hxe, queued]
      rw [none]
      refine PortUnit.activeEntry_of_noneActive ?_
      simpa [PortUnit.noneActive, hx] using behind
    · simp [PortUnit.activeEntry, queue, hx]

theorem State.timersFollow_abort {s : State} (law : s.atPorts PortUnit.queueLaw = true) (h : s.timersFollow = true)
    (p : Port) : (s.abort p).timersFollow = true := by
  unfold State.abort
  split
  · exact (s.sameTimers_answer p _).follows h
  split
  · exact (s.sameTimers_answer p _).follows h
  rename_i tag _ e found
  split
  · rename_i queued
    refine (State.sameTimers_answer _ p _).follows ((s.sameTimers_updPort ?_).follows h)
    exact ⟨⟨PortUnit.activeEntry_eraseP ((s.atPorts_iff _).mp law p) found queued, rfl, rfl, rfl, rfl, rfl⟩, rfl⟩
  · exact State.timersFollow_settle _

theorem State.sameTimers_edit (s : State) (p : Port) (f : Table → Nat ⊕ Table) : s.SameTimers (s.edit p f) := by
  unfold State.edit
  repeat' split
  all_goals exact s.sameTimers_answer_with _ _ _ p _

theorem State.sameTimers_refuseData (s : State) (p : Port) : s.SameTimers (s.refuseData p) :=
  s.sameTimers_updPort ⟨⟨rfl, rfl, rfl, rfl, rfl, rfl⟩, rfl⟩

theorem State.sameTimers_output (s : State) (p : Port) (w : Word) : s.SameTimers (s.output p w) :=
  s.sameTimers_updPort ⟨⟨rfl, rfl, rfl, rfl, rfl, rfl⟩, rfl⟩

theorem State.timersFollow_emptyRead {s : State} (h : s.timersFollow = true) (p : Port) :
    (s.emptyRead p).timersFollow = true :=
  (State.sameTimers_output _ p 0).follows ((s.sameTimers_refuseData p).follows h)

theorem State.timersFollow_dataWrite {s : State} (h : s.timersFollow = true) (p : Port) (w : Word) :
    (s.dataWrite p w).timersFollow = true := by
  have refused := (s.sameTimers_refuseData p).follows h
  unfold State.dataWrite
  split
  · exact refused
  split
  · split
    · split
      · exact State.timersFollow_settle _
      split
      · exact State.timersFollow_settle _
      · exact refused
    · exact refused
  all_goals exact refused

theorem State.timersFollow_dataRead {s : State} (h : s.timersFollow = true) (p : Port) :
    (s.dataRead p).timersFollow = true := by
  have empty := State.timersFollow_emptyRead h p
  unfold State.dataRead
  split
  · exact empty
  split
  · split
    · exact empty
    split
    · exact empty
    split
    · exact State.timersFollow_settle _
    · exact empty
  · exact empty

theorem State.timersFollow_setup {s : State} (h : s.timersFollow = true) (p : Port) :
    (s.setup p).timersFollow = true := by
  unfold State.setup
  dsimp only
  split
  · split
    · exact State.timersFollow_settle _
    · exact (s.sameTimers_answer p _).follows h
  · exact (s.sameTimers_answer p _).follows h

/-- An access settles the timers, or leaves them and what they depend on. -/
theorem State.WindowEffect.timersFollow {s t : State} {p : Port} (law : s.atPorts PortUnit.queueLaw = true)
    (h : s.timersFollow = true) (e : s.WindowEffect p t) : t.timersFollow = true := by
  cases e with
  | nothing => exact h
  | issueQueued tag _ => exact (s.sameTimers_updPort (PortUnit.sameTimers_issueQueued _ tag _)).follows h
  | badCommand => exact (s.sameTimers_answer p _).follows h
  | claim =>
    refine State.SameTimers.follows ?_ h
    unfold State.claim
    dsimp only
    repeat' split
    all_goals exact s.sameTimers_answer_with _ _ _ p _
  | discard =>
    refine State.SameTimers.follows ?_ h
    unfold State.discard
    repeat' split
    all_goals exact s.sameTimers_answer_with _ _ _ p _
  | define => exact (s.sameTimers_edit p _).follows h
  | delete => exact (s.sameTimers_edit p _).follows h
  | resize => exact (s.sameTimers_edit p _).follows h
  | modify => exact (s.sameTimers_edit p _).follows h
  | close =>
    refine State.SameTimers.follows ?_ h
    unfold State.close
    repeat' split
    all_goals exact s.sameTimers_answer_with _ _ _ p _
  | hold =>
    refine State.SameTimers.follows ?_ h
    unfold State.takeHold
    repeat' split
    all_goals exact s.sameTimers_answer_with _ _ _ p _
  | abort => exact State.timersFollow_abort law h p
  | pop =>
    refine (s.sameTimers_updPort ?_).follows h
    unfold PortUnit.pop
    split
    all_goals exact ⟨⟨rfl, rfl, rfl, rfl, rfl, rfl⟩, rfl⟩
  | watch =>
    unfold State.watch
    split
    · exact (s.sameTimers_answer p _).follows h
    split
    · exact (s.sameTimers_answer p _).follows h
    · exact (s.sameTimers_updPort ⟨⟨rfl, rfl, rfl, rfl, rfl, rfl⟩, rfl⟩).follows h
  | info =>
    refine State.SameTimers.follows ?_ h
    unfold State.info
    dsimp only
    repeat' split
    all_goals exact s.sameTimers_answer p _
  | setup => exact State.timersFollow_setup h p
  | dataWrite w => exact State.timersFollow_dataWrite h p w
  | dataRead => exact State.timersFollow_dataRead h p
  | paramWrite loc w =>
    unfold State.paramWrite
    split
    · exact (s.sameTimers_updPort ⟨⟨rfl, rfl, rfl, rfl, rfl, rfl⟩, rfl⟩).follows h
    · exact h
  | _ => exact (s.sameTimers_updPort ⟨⟨rfl, rfl, rfl, rfl, rfl, rfl⟩, rfl⟩).follows h

/-! ### Events -/

theorem State.timersFollow_commandStart {s : State} (h : s.timersFollow = true) (p : Port) :
    (s.commandStart p).timersFollow = true := by
  unfold State.commandStart
  split
  · split
    · exact h
    split
    all_goals exact State.timersFollow_settle _
  · exact h

theorem State.timersFollow_grant (s : State) (p : Port) (e : Entry) (a : Active) (w : Work) :
    (s.grant p e a w).timersFollow = true := by
  unfold State.grant
  split
  all_goals exact State.timersFollow_settle _

/-- A table segment that goes on with its next operation is the same port's (R26). -/
theorem State.sameTimers_goOn {s : State} {g : Segment} (flight : s.inFlight = some (.segment g)) (w : Work)
    (array : Memory) : s.SameTimers (s.goOn g w array) := by
  refine ⟨⟨rfl, rfl, ?_, ?_, fun _ => ⟨rfl, rfl, rfl, rfl, rfl, rfl⟩⟩, rfl, rfl, fun _ => rfl⟩
  · simp [State.goOn, flight]
  · intro p
    simp [State.ownSegment, State.goOn, flight]

theorem State.timersFollow_headerEnd {s : State} (h : s.timersFollow = true) {g : Segment}
    (flight : s.inFlight = some (.segment g)) (new : Table) (ok : Bool) :
    (s.headerEnd g new ok).timersFollow = true := by
  unfold State.headerEnd
  dsimp only
  split
  · exact (State.sameTimers_goOn flight _ _).follows h
  · exact State.timersFollow_settle _

theorem State.timersFollow_recordsEnd (s : State) (g : Segment) (new : Table) (ok : Bool) :
    (s.recordsEnd g new ok).timersFollow = true := by
  unfold State.recordsEnd
  dsimp only
  split
  all_goals exact State.timersFollow_settle _

theorem State.timersFollow_loadEnd {s : State} (h : s.timersFollow = true) {got : List ReadReport}
    (flight : s.inFlight = some (.load got)) (reports : List ReadReport) :
    (s.loadEnd reports).timersFollow = true := by
  unfold State.loadEnd
  split
  · refine State.SameTimers.follows (s := s) ⟨⟨rfl, rfl, ?_, ?_, fun _ => ⟨rfl, rfl, rfl, rfl, rfl, rfl⟩⟩, rfl, rfl,
      fun _ => rfl⟩ h
    · simp [flight]
    · intro p
      simp [State.ownSegment, flight]
  · exact State.timersFollow_settle _

theorem State.timersFollow_standbyExpiry {s : State} (h : s.timersFollow = true) :
    s.standbyExpiry.timersFollow = true := by
  unfold State.standbyExpiry
  split
  · exact State.timersFollow_settle _
  · exact h

theorem State.timersFollow_wakeEnd {s : State} (h : s.timersFollow = true) : s.wakeEnd.timersFollow = true := by
  unfold State.wakeEnd
  split
  · exact State.timersFollow_settle _
  · exact h

theorem State.timersFollow_stallExpiry {s : State} (h : s.timersFollow = true) (p : Port) :
    (s.stallExpiry p).timersFollow = true := by
  unfold State.stallExpiry
  split
  · exact State.timersFollow_settle _
  · exact h

theorem State.timersFollow_leaseExpiry {s : State} (h : s.timersFollow = true) : s.leaseExpiry.timersFollow = true := by
  unfold State.leaseExpiry State.loseClaim
  split
  · split
    · exact (s.sameTimers_updPort_with _ _ _ ⟨⟨rfl, rfl, rfl, rfl, rfl, rfl⟩, rfl⟩).follows h
    all_goals exact h
  · exact h

/-- Time moves a running timer on and starts or stops none. -/
theorem State.sameTimers_tick (s : State) : s.SameTimers s.tick := by
  refine ⟨⟨rfl, rfl, rfl, fun _ => rfl, fun p => ?_⟩, rfl, ?_, fun p => ?_⟩
  · rw [State.port_tick]
    exact ⟨rfl, rfl, rfl, rfl, rfl, rfl⟩
  · simp [State.tick]
  · simp [State.port_tick]

/-- While LOADING no command waits on its data side. -/
theorem State.Loading.not_waitsOnData {s : State} (h : s.Loading) (p : Port) : s.waitsOnData p = false := by
  simp [State.waitsOnData, h.activeEntry p]

/-- While LOADING every timer stands (R11, R80). -/
theorem State.Loading.timersFollow_iff {s : State} (h : s.Loading) :
    s.timersFollow = true ↔ ∀ p, (s.port p).stallTimer = none := by
  have idle : s.idleTimed = false := by simp [State.idleTimed, h.part]
  have wanted := State.wantsGrant_of_loading h.part
  simp [State.timersFollow_iff, h.standbyTimer, idle, wanted, State.stallFollows_iff, h.not_waitsOnData]

/-- A part reset and the supply stop every timer. -/
theorem State.stallTimer_wiped (s : State) (begun : Bool) (p : Port) : ((s.wiped begun).port p).stallTimer = none := by
  show PortUnit.stallTimer ((PerPort.mapPorts _ _).get p) = none
  rw [PerPort.get_mapPorts]
  rfl

/-- An event settles the timers, leaves them and what they depend on, or stands in LOADING with every timer stopped. -/
theorem State.Event.timersFollow {s t : State} (course : s.Loading ∨ s.Serving) (h : s.timersFollow = true)
    (e : s.Event t) : t.timersFollow = true := by
  cases e with
  | nothing => exact h
  | commandStart p => exact State.timersFollow_commandStart h p
  | grant _ _ _ _ => exact State.timersFollow_grant s _ _ _ _
  | readEnd _ _ _ => exact State.timersFollow_settle _
  | checkEnd _ _ _ => exact State.timersFollow_settle _
  | writeEnd _ _ _ _ => exact State.timersFollow_settle _
  | blankEnd _ _ _ => exact State.timersFollow_settle _
  | wipeBlockEnd _ _ _ => exact State.timersFollow_settle _
  | tableBlankEnd flight _ => exact (State.sameTimers_goOn flight _ _).follows h
  | headerEnd ok flight _ => exact State.timersFollow_headerEnd h flight _ ok
  | recordsEnd ok _ _ => exact State.timersFollow_recordsEnd s _ _ ok
  | loadEnd flight => exact State.timersFollow_loadEnd h flight _
  | standbyExpiry => exact State.timersFollow_standbyExpiry h
  | wakeEnd => exact State.timersFollow_wakeEnd h
  | leaseExpiry => exact State.timersFollow_leaseExpiry h
  | stallExpiry p => exact State.timersFollow_stallExpiry h p
  | tick => exact s.sameTimers_tick.follows h
  | resetPort p _ _ => exact State.timersFollow_settle _
  | withPrst p level => exact (s.sameTimers_updPort ⟨⟨rfl, rfl, rfl, rfl, rfl, rfl⟩, rfl⟩).follows h
  | partReset begun _ =>
    exact ((s.loading_wiped begun).with_lines (.inl rfl)).timersFollow_iff.mpr (s.stallTimer_wiped begun)
  | partResetUnpowered _ => exact h
  | releaseReset line =>
    obtain loading | serving := course
    · obtain released | ready := (State.Event.releaseReset line).loading loading
      · exact released.timersFollow_iff.mpr (loading.timersFollow_iff.mp h)
      · have part : s.part = .ready := ready.part
        simp [loading.part] at part
    · simp [serving.resetLine] at line
  | powerOn begun => exact (s.loading_powerOn begun).timersFollow_iff.mpr (s.stallTimer_wiped begun)
  | powerLoss begun _ =>
    exact ((s.loading_wiped begun).with_lines (.inl rfl)).timersFollow_iff.mpr (s.stallTimer_wiped begun)

/-- Settles O17: each access and each event settles the timers, or leaves them and their conditions, or stands in
LOADING with every timer stopped. -/
theorem timersFollowTheirConditions : Obligations.TimersFollowTheirConditions := by
  intro s t queue loading flight timers h
  refine step_induction
    (I := fun s => s.atPorts PortUnit.queueLaw = true ∧ (s.Loading ∨ s.Serving) ∧ s.timersFollow = true)
    (J := fun s => s.timersFollow = true)
    (fun s l ⟨queue, course, timers⟩ =>
      ⟨queue, State.loading_or_serving_with course l s.frame s.selected, timers⟩)
    (fun s f b ⟨queue, course, timers⟩ => ⟨queue, State.loading_or_serving_with course s.pending f b, timers⟩)
    (fun _ _ _ h => h) (fun ⟨queue, _, timers⟩ e => e.timersFollow queue timers)
    (fun ⟨_, course, timers⟩ e => e.timersFollow course timers) h
    ⟨queue, (State.loading_or_serving_iff s).mp ⟨loading, flight⟩, timers⟩

end Sys2Proof.Machine

namespace Sys2Proof.Machine

/-! ### When an expiry is due (R12, R43, R82) -/

theorem State.standbyDue_iff (s : State) :
    s.standbyDue = true ↔ ∃ n, s.standbyTimer = some n ∧ s.interval * 10 ≤ n := by
  unfold State.standbyDue
  cases s.standbyTimer with
  | none => simp
  | some n => exact decide_eq_true_iff.trans (by simp [Config.ticksPerStep])

theorem State.leaseDue_iff (s : State) :
    s.leaseDue = true ↔
      ∃ h staged lease n, s.tableState = .claimed h staged lease n ∧ lease * 10 ≤ n := by
  unfold State.leaseDue
  cases s.tableState with
  | claimed h staged lease n => exact decide_eq_true_iff.trans (by simp [Config.ticksPerStep])
  | _ => simp

theorem State.stallDue_iff (s : State) (p : Port) :
    s.stallDue p = true ↔
      ∃ n, (s.port p).stallTimer = some n ∧ (s.port p).stallSetting ≤ n ∧ s.waitsOnData p = true := by
  unfold State.stallDue
  cases (s.port p).stallTimer <;> simp

/-! ### A step with no command waiting (log 5) -/

theorem step_of_idle {s : State} (h : s.pending = []) : step s = .next s.idle := by
  unfold step
  rw [h]

/-- The lease timer counts in CLAIMED. -/
theorem State.tableState_tick_of_claimed {s : State} {h : Port} {staged : Table} {lease n : Nat}
    (claimed : s.tableState = .claimed h staged lease n) :
    s.tick.tableState = .claimed h staged lease (if n < lease * 10 then n + 1 else n) := by
  simp only [State.tick, claimed]
  rfl

/-- No lease timer runs in the other table states. -/
theorem State.tableState_tick_of_not_claimed {s : State}
    (other : ∀ h staged lease n, s.tableState ≠ .claimed h staged lease n) : s.tick.tableState = s.tableState := by
  cases table : s.tableState with
  | claimed h staged lease n => exact absurd table (other h staged lease n)
  | _ => simp only [State.tick, table]

/-- Settles O2: the branches of `State.idle` in their order, and the fields of `State.tick`. -/
theorem idleStepCountsTheTimers : Obligations.IdleStepCountsTheTimers := by
  refine ⟨fun s => ⟨s.standbyDue_iff, s.leaseDue_iff, s.stallDue_iff⟩, fun s pending => ?_⟩
  rw [step_of_idle pending]
  refine ⟨fun due => ?_, fun standby => ⟨fun due => ?_, fun lease => ⟨fun due => ?_, fun a due => ?_, fun a b due => ?_,
    fun none => ⟨s.tick, ?_, rfl, rfl, ?_, State.tableState_tick_of_not_claimed, s.port_tick⟩⟩⟩⟩
  · simp [State.idle, due, exec, execStandbyTimerExpiry]
  · simp [State.idle, standby, due, exec, execLeaseExpiry]
  · simp [State.idle, standby, lease, due, exec, execStallExpiry]
  · simp [State.idle, standby, lease, a, due, exec, execStallExpiry]
  · simp [State.idle, standby, lease, a, b, due, exec, execStallExpiry]
  · simp [State.idle, standby, lease, none]
  · intro h staged length n claimed
    exact State.tableState_tick_of_claimed claimed

/-! ### The end of an ACTIVE entry, in the words of the statements -/

/-- An ACTIVE entry ends with its record, as `endedWith` says. -/
theorem State.finish_eq_endedWith {s : State} {p : Port} {e : Entry} {a : Active} (st : Status)
    (h : (s.port p).activeEntry = some (e, a)) :
    s.finish p st = s.endedWith p (s.endRecord e a.progress st) :=
  State.finish_of_active st h

theorem State.endRecord_read (s : State) {e : Entry} {i : Index} {start count : Nat}
    (cmd : e.cmd = .read i start count) (r : ReadProgress) (st : Status) :
    s.endRecord e (.read r) st =
      { Completion.bare e.tag 1 st with
        partition := some i, sectorsDone := some r.sectorsDone, blankMet := some r.blankMet, failAt := r.failAt,
        genStart := some r.genStart, genEnd := some s.counts[i] } := by
  simp [State.endRecord, cmd, QueuedCommand.code, QueuedCommand.part, Completion.bare]

theorem State.endRecord_write (s : State) {e : Entry} {i : Index} {start count : Nat}
    (cmd : e.cmd = .write i start count) (w : WriteProgress) (st : Status) :
    s.endRecord e (.write w) st =
      { Completion.bare e.tag 3 st with
        partition := some i, sectorsDone := some w.sectorsDone, failAt := w.failAt } := by
  simp [State.endRecord, cmd, QueuedCommand.code, QueuedCommand.part, Completion.bare]

theorem State.endRecord_blank (s : State) {e : Entry} {i : Index} {first count : Nat}
    (cmd : e.cmd = .blank i first count) (b : BlankProgress) (st : Status) :
    s.endRecord e (.blank b) st =
      { Completion.bare e.tag 4 st with partition := some i, sectorsDone := some (16 * b.blocksDone) } := by
  simp [State.endRecord, cmd, QueuedCommand.code, QueuedCommand.part, Completion.bare, Config.blockSectors, Nat.mul_comm]

/-- An ended WIPE without a table segment carries no generation. -/
theorem State.endRecord_wipe_aborted (s : State) {e : Entry} {i : Index} {which : Which} {key : Key}
    (cmd : e.cmd = .wipe i which key) (w : WipeProgress) :
    s.endRecord e (.wipe w) .aborted =
      { Completion.bare e.tag 5 .aborted with partition := some i, sectorsDone := some (16 * w.blocksDone) } := by
  simp [State.endRecord, cmd, QueuedCommand.code, QueuedCommand.part, Completion.bare, Config.blockSectors, Nat.mul_comm,
    Status.ofTableSegment]

/-! ### What follows at once -/

/-- Settling changes the array power state, the standby timer and the stall timers, and nothing else. -/
theorem State.settle_eq (s : State) :
    s.settle = { s with power := s.settle.power, standbyTimer := s.settle.standbyTimer, ports := s.settle.ports } := by
  have wake : s.wakeIfWanted = { s with power := s.wakeIfWanted.power } := by
    unfold State.wakeIfWanted
    split <;> rfl
  calc s.settle
    _ = { s.wakeIfWanted with standbyTimer := s.settle.standbyTimer, ports := s.settle.ports } := rfl
    _ = { ({ s with power := s.wakeIfWanted.power } : State) with
          standbyTimer := s.settle.standbyTimer, ports := s.settle.ports } := by rw [← wake]

theorem State.power_settle_of_wanted {s : State} (standby : s.power = .standby) (wanted : s.wantsGrant = true) :
    s.settle.power = .waking := by
  show s.wakeIfWanted.power = .waking
  simp [State.wakeIfWanted, standby, wanted]

theorem State.power_settle_of_awake {s : State} (awake : s.power ≠ .standby) : s.settle.power = s.power := by
  show s.wakeIfWanted.power = s.power
  simp [State.wakeIfWanted, awake]

theorem State.anyEligible_iff (s : State) : s.anyEligible = true ↔ ∃ p, s.eligible p = true := by
  simp only [State.anyEligible, Bool.or_eq_true]
  constructor
  · rintro ((h | h) | h)
    · exact ⟨.a, h⟩
    · exact ⟨.b, h⟩
    · exact ⟨.c, h⟩
  · rintro ⟨p, h⟩
    cases p <;> simp [h]

/-- When a grant is wanted (R15). -/
theorem State.wantsGrant_iff (s : State) :
    s.wantsGrant = true ↔ s.inFlight = none ∧ s.part = .ready ∧ ∃ p, s.eligible p = true := by
  simp [State.wantsGrant, and_assoc, State.anyEligible_iff]

/-- A timer that follows a condition that does not hold is stopped. -/
@[simp] theorem followTimer_false (timer : Option Nat) : followTimer false timer = none := rfl

/-- A timer that follows a condition that holds runs, from zero when it starts. -/
@[simp] theorem followTimer_true (timer : Option Nat) : followTimer true timer = some (timer.getD 0) := rfl

theorem followTimer_decide (c : Prop) [Decidable c] (timer : Option Nat) :
    followTimer (decide c) timer = if c then some (timer.getD 0) else none := by
  by_cases h : c <;> simp [h]

theorem PortUnit.oldestIs_iff (u : PortUnit) (st : BufferState) :
    u.oldestIs st = true ↔ ∃ b rest, u.transfers = b :: rest ∧ b.state = st := by
  unfold PortUnit.oldestIs
  cases u.transfers with
  | nil => simp
  | cons b rest => simp

/-- When a port's ACTIVE command waits on the port's own data side (R80). -/
theorem State.waitsOnData_iff (s : State) (p : Port) :
    s.waitsOnData p = true ↔
      ∃ e a, (s.port p).activeEntry = some (e, a) ∧ s.ownSegment p = false ∧
        ((∃ i n m w, e.cmd = .write i n m ∧ a.progress = .write w ∧ w.sectorsDone < m ∧
            ((∃ b rest, (s.port p).transfers = b :: rest ∧ b.state = .filling) ∨
              ((s.port p).transfers = [] ∧ s.mayTake p = true))) ∨
          (∃ i n m r, e.cmd = .read i n m ∧ a.progress = .read r ∧
            (∃ b ∈ (s.port p).transfers, b.state = .ready ∨ b.state = .draining) ∧
            (r.readingClosed = true ∨ s.mayTake p = false))) := by
  unfold State.waitsOnData
  cases (s.port p).activeEntry with
  | none => simp
  | some x =>
    obtain ⟨⟨tag, cmd, active⟩, ⟨progress, abortPending⟩⟩ := x
    simp only [Bool.and_eq_true, Bool.not_eq_true', Option.some.injEq, Prod.mk.injEq]
    split
    · simp [PortUnit.oldestIs_iff]
    · simp
    · rename_i not_write not_read
      simp only [Bool.false_eq_true, and_false, false_iff, not_exists]
      rintro e a ⟨⟨rfl, rfl⟩, -, ⟨i, n, m, w, cmd, progress, -⟩ | ⟨i, n, m, r, cmd, progress, -⟩⟩
      · exact not_write _ _ _ _ cmd progress
      · exact not_read _ _ _ _ cmd progress

/-- What settling does to the wake and the timers (R11, R15, R80), for whatever says when a grant is wanted and when the
array is idle. -/
theorem State.settle_spec (s : State) (wanted idle : Prop)
    (wanted_iff : wanted ↔ s.inFlight = none ∧ s.part = .ready ∧ ∃ q, s.eligible q = true)
    (idle_iff : idle ↔ s.power = .ready ∧ s.inFlight = none ∧ s.part = .ready ∧ s.interval ≠ 0) :
    ∃ power timer ports, s.settle = { s with power := power, standbyTimer := timer, ports := ports } ∧
      (s.power = .standby → wanted → power = .waking) ∧ (s.power ≠ .standby ∨ ¬ wanted → power = s.power) ∧
      (¬ idle → timer = none) ∧ (∀ n, idle → s.standbyTimer = some n → timer = some n) ∧
      (idle → s.standbyTimer = none → wanted → timer = none) ∧
      (idle → s.standbyTimer = none → ¬ wanted → timer = some 0) ∧
      ∀ p, ports.get p =
        { s.port p with
          stallTimer :=
            if (s.port p).stallSetting ≠ 0 ∧ s.waitsOnData p = true then some ((s.port p).stallTimer.getD 0)
            else none } := by
  rw [← s.wantsGrant_iff] at wanted_iff
  rw [← s.idleTimed_iff] at idle_iff
  simp only [wanted_iff, idle_iff, Bool.not_eq_true]
  refine ⟨_, _, _, s.settle_eq, State.power_settle_of_wanted, ?_, ?_, ?_, ?_, ?_, fun p => ?_⟩
  · rintro (awake | unwanted)
    · exact State.power_settle_of_awake awake
    · exact State.power_settle_of_not_wanted unwanted
  · intro busy
    simp [State.standbyTimer_settle, busy]
  · intro n idle timer
    simp [State.standbyTimer_settle, idle, timer]
  · intro idle timer wanted
    simp [State.standbyTimer_settle, idle, timer, wanted]
  · intro idle timer unwanted
    simp [State.standbyTimer_settle, idle, timer, unwanted]
  · show s.settle.port p = _
    rw [State.port_settle_eq, ← followTimer_decide, Bool.decide_and, Bool.decide_eq_true]

/-! ### The expiries, case by case -/

theorem State.leaseExpiry_of_due {s : State} {h : Port} {staged : Table} {lease n : Nat}
    (claimed : s.tableState = .claimed h staged lease n) (due : lease * 10 ≤ n) : s.leaseExpiry = s.loseClaim := by
  have : s.leaseDue = true := s.leaseDue_iff.mpr ⟨h, staged, lease, n, claimed, due⟩
  simp [State.leaseExpiry, this]

theorem State.stallExpiry_of_due {s : State} {p : Port} (due : s.stallDue p = true) {e : Entry} {a : Active}
    (active : (s.port p).activeEntry = some (e, a)) :
    s.stallExpiry p = (s.endedWith p (s.endRecord e a.progress .stalled)).settle := by
  rw [← State.finish_eq_endedWith _ active]
  simp [State.stallExpiry, due]

/-- Settles O57: what settling does, and each expiry by whether it is due. -/
theorem timersExpire : Obligations.TimersExpire := by
  refine ⟨State.settle_spec, State.waitsOnData_iff, fun s p => ⟨?_, ?_, ?_, ?_, ?_, ?_, ?_, ?_⟩⟩
  · intro n timer reached
    have due := s.standbyDue_iff.mpr ⟨n, timer, reached⟩
    simp [exec, execStandbyTimerExpiry, State.standbyExpiry, due]
  · intro short
    have not_due : s.standbyDue = false := by
      rw [Bool.eq_false_iff, Ne, State.standbyDue_iff]
      rintro ⟨n, timer, reached⟩
      obtain stopped | ⟨m, running, below⟩ := short
      · simp [stopped] at timer
      · simp only [running, Option.some.injEq] at timer
        omega
    exact congrArg _ (State.standbyExpiry_of_not_due not_due)
  · intro waking
    simp [exec, execWakeEnd, State.wakeEnd, waking]
  · intro awake
    simp [exec, execWakeEnd, State.wakeEnd, awake]
  · refine fun h staged lease n claimed => ⟨fun reached => ?_, fun below => ?_⟩
    · simp only [exec, execLeaseExpiry]
      rw [State.leaseExpiry_of_due claimed reached, State.loseClaim_of_claimed claimed]
    · have not_due : s.leaseDue = false := by
        rw [Bool.eq_false_iff, Ne, State.leaseDue_iff]
        rintro ⟨h', staged', lease', n', claimed', reached⟩
        rw [claimed] at claimed'
        cases claimed'
        omega
      exact congrArg _ (State.leaseExpiry_of_not_due not_due)
  · intro unclaimed
    have not_due : s.leaseDue = false := by
      rw [Bool.eq_false_iff, Ne, State.leaseDue_iff]
      rintro ⟨h, staged, lease, n, claimed, -⟩
      exact unclaimed h staged lease n claimed
    exact congrArg _ (State.leaseExpiry_of_not_due not_due)
  · intro short
    have not_due : s.stallDue p = false := by
      rw [Bool.eq_false_iff, Ne, State.stallDue_iff]
      rintro ⟨n, timer, reached, -⟩
      obtain stopped | ⟨m, running, below⟩ := short
      · simp [stopped] at timer
      · simp only [running, Option.some.injEq] at timer
        omega
    exact congrArg _ (State.stallExpiry_of_not_due not_due)
  · intro n e a timer reached waits active
    have due := (s.stallDue_iff p).mpr ⟨n, timer, reached, waits⟩
    have expired := State.stallExpiry_of_due due active
    refine ⟨fun i start count r cmd progress => ?_, fun i start count w cmd progress => ?_⟩
    · rw [progress, s.endRecord_read cmd] at expired
      exact congrArg _ expired
    · rw [progress, s.endRecord_write cmd] at expired
      exact congrArg _ expired

end Sys2Proof.Machine

namespace Sys2Proof.Machine

/-! ### The cut of the operation in flight (R8) -/

theorem State.cutArray_of_segment {s : State} {g : Segment} (flight : s.inFlight = some (.segment g)) (begun : Bool) :
    s.cutArray begun = cutWork s.array (otherSlot s.currentSlot) begun g.work := by
  simp [State.cutArray, flight]

/-- Of two slots, the one that is not the other (R24). -/
theorem val_otherSlot {slot : Nat} {current : Fin 2} (two : slot < 2) (other : slot ≠ current.val) :
    (otherSlot current).val = slot := by
  unfold otherSlot
  split
  · rename_i h
    subst h
    show 1 = slot
    simp only [Fin.val_zero] at other
    omega
  · rename_i h
    have : current.val ≠ 0 := fun hv => h (Fin.ext hv)
    show 0 = slot
    omega

/-- A program that had begun leaves its sector DAMAGED if it was BLANK; one that had not leaves the array (R8). -/
theorem get_cutProgram (m : Memory) (n k : Nat) (begun : Bool) :
    Memory.get (if begun then programSector m n (.bytes []) false else m) k =
      if begun = true ∧ k = n ∧ Memory.get m n = none then some .damaged else Memory.get m k := by
  cases begun with
  | true => simp [get_programSector]
  | false => simp

/-- The sectors of the slot that is not current, by its number (section 1.1). -/
theorem slotSector_otherSlot {slot : Nat} {current : Fin 2} (two : slot < 2) (other : slot ≠ current.val) (k : Nat) :
    slotSector (otherSlot current) k = 16 * slot + k := by
  rw [slotSector, val_otherSlot two other, Nat.mul_comm, Config.blockSectors]

/-- What a cut leaves of a segment, sector by sector (R8, R26). -/
theorem State.get_cutArray_of_segment {s : State} {g : Segment} (flight : s.inFlight = some (.segment g))
    (begun : Bool) (k : Nat) :
    (∀ n, g.work = .readSector n → s.cutArray begun = s.array) ∧
      (∀ n d, g.work = .programSector n d →
        Memory.get (s.cutArray begun) k =
          if begun = true ∧ k = n ∧ Memory.get s.array n = none then some .damaged else Memory.get s.array k) ∧
      (∀ b, g.work = .blankBlock b →
        Memory.get (s.cutArray begun) k =
          if 16 * b ≤ k ∧ k < 16 * b + 16 then some .damaged else Memory.get s.array k) ∧
      ∀ (slot : Nat) (new : Table), slot < 2 → slot ≠ s.currentSlot.val →
        (g.work = .tableBlank new →
          Memory.get (s.cutArray begun) k =
            if 16 * slot ≤ k ∧ k < 16 * slot + 16 then some .damaged else Memory.get s.array k) ∧
        (∀ n, (g.work = .tableHeader new ∧ n = 16 * slot) ∨ (g.work = .tableRecords new ∧ n = 16 * slot + 1) →
          Memory.get (s.cutArray begun) k =
            if begun = true ∧ k = n ∧ Memory.get s.array n = none then some .damaged else Memory.get s.array k) := by
  rw [State.cutArray_of_segment flight]
  refine ⟨fun n work => ?_, fun n d work => ?_, fun b work => ?_, fun slot new two other => ⟨fun work => ?_, ?_⟩⟩
  · rw [work]
    rfl
  · rw [work]
    exact get_cutProgram s.array n k begun
  · rw [work, cutWork, Memory.get_damageFrom, Nat.mul_comm, Config.blockSectors]
  · rw [work, cutWork, slotSector_otherSlot two other, Memory.get_damageFrom, Config.blockSectors, Nat.add_zero]
  · rintro n (⟨work, rfl⟩ | ⟨work, rfl⟩)
    · rw [work, cutWork, slotSector_otherSlot two other, Nat.add_zero]
      exact get_cutProgram s.array _ k begun
    · rw [work, cutWork, slotSector_otherSlot two other]
      exact get_cutProgram s.array _ k begun

/-- The clearing keeps the supply's level. -/
theorem State.powered_wiped (s : State) (begun : Bool) : (s.wiped begun).powered = s.powered := rfl

/-- Settles O59: the array by the cut of each kind of work, and everything else as a part reset leaves it. -/
theorem partResetAndPowerClearTheRest : Obligations.PartResetAndPowerClearTheRest := by
  refine ⟨fun s begun k => ⟨fun flight => ?_, fun got flight => ?_, fun g flight =>
    State.get_cutArray_of_segment flight begun k⟩, fun s begun cleared cleared_eq =>
    ⟨fun powered => ?_, fun off => ?_, fun line powered => ?_, fun line off => ?_, fun line => ?_, ?_, fun powered => ?_,
      fun off => ?_⟩⟩
  · simp [State.cutArray, flight]
  · simp [State.cutArray, flight]
  · rw [cleared_eq]
    simp only [exec, execPartReset, powered, if_true, (s.powered_wiped begun).trans powered]
    rfl
  · simp [exec, execPartReset, off]
  · simp [exec, execPartResetRelease, State.releaseReset, startLoad, line, powered]
  · simp [exec, execPartResetRelease, State.releaseReset, line, off]
  · simp [exec, execPartResetRelease, line]
  · rw [cleared_eq]
    rfl
  · rw [cleared_eq]
    simp only [exec, execPowerLoss, powered, if_true]
    rfl
  · simp [exec, execPowerLoss, off]

end Sys2Proof.Machine

namespace Sys2Proof.Machine

/-! ### Every command has a next state -/

/-- No command but SEGMENT_GRANT can do anything but give a next state; the ends of array operations choose between next
states. -/
theorem exec_next {c : Instr} (s : State) (h : c ≠ .segmentGrant) : ∃ t, exec c s = .next t := by
  cases c with
  | segmentGrant => exact absurd rfl h
  | readSectorReadEnd | checkSectorReadEnd | writeProgramEnd _ | blankBlockEnd | wipeBlockEnd | tableBlockBlankEnd
  | tableHeaderProgramEnd _ | tableRecordsProgramEnd _ =>
    simp only [exec, execReadSectorReadEnd, execCheckSectorReadEnd, execWriteProgramEnd, execBlankBlockEnd,
      execWipeBlockEnd, execTableBlockBlankEnd, execTableHeaderProgramEnd, execTableRecordsProgramEnd]
    split
    · split
      all_goals exact ⟨_, rfl⟩
    · exact ⟨_, rfl⟩
  | loadReadEnd =>
    simp only [exec, execLoadReadEnd]
    split <;> exact ⟨_, rfl⟩
  | _ => exact ⟨_, rfl⟩

/-- A grant gives a next state, or its segment lies outside the array (log 21). -/
theorem exec_segmentGrant_cases (s : State) :
    (∃ t, exec .segmentGrant s = .next t) ∨
      exec .segmentGrant s = .fault .noSuchSector ∧
        ∃ p e a w, s.grantee = some p ∧ s.nextWork p = some (e, a, w) ∧ w.inArray = false := by
  simp only [exec, execSegmentGrant]
  split
  · split
    · exact .inl ⟨_, rfl⟩
    · rename_i p grantee
      split
      · exact .inl ⟨_, rfl⟩
      · rename_i e a w work
        split
        · exact .inl ⟨_, rfl⟩
        · rename_i outside
          exact .inr ⟨rfl, p, e, a, w, grantee, work, by simpa using outside⟩
  · exact .inl ⟨_, rfl⟩

/-- Work outside the array is a sector or a block that the array does not have (R1). -/
theorem Work.beyond_of_not_inArray {w : Work} (h : w.inArray = false) :
    (∃ n, w = .readSector n ∧ 16384 ≤ n) ∨ (∃ n d, w = .programSector n d ∧ 16384 ≤ n) ∨
      ∃ b, w = .blankBlock b ∧ 1024 ≤ b := by
  cases w with
  | readSector n => exact .inl ⟨n, rfl, Nat.not_lt.mp (of_decide_eq_false h)⟩
  | programSector n d => exact .inr (.inl ⟨n, d, rfl, Nat.not_lt.mp (of_decide_eq_false h)⟩)
  | blankBlock b => exact .inr (.inr ⟨b, rfl, Nat.not_lt.mp (of_decide_eq_false h)⟩)
  | _ => simp [Work.inArray] at h

/-! ### The work of an ACTIVE command inside its record keeps to the user space (R7) -/

theorem Work.inUserSpace_readSector (n : Nat) : (Work.readSector n).inUserSpace = true ↔ 32 ≤ n ∧ n < 16384 := by
  rw [Work.inUserSpace, Bool.and_eq_true, decide_eq_true_eq, decide_eq_true_eq]
  rfl

theorem Work.inUserSpace_programSector (n : Nat) (data : List Byte) :
    (Work.programSector n data).inUserSpace = true ↔ 32 ≤ n ∧ n < 16384 := by
  rw [Work.inUserSpace, Bool.and_eq_true, decide_eq_true_eq, decide_eq_true_eq]
  rfl

theorem Work.inUserSpace_blankBlock (b : Nat) : (Work.blankBlock b).inUserSpace = true ↔ 2 ≤ b ∧ b < 1024 := by
  rw [Work.inUserSpace, Bool.and_eq_true, decide_eq_true_eq, decide_eq_true_eq]
  rfl

theorem Work.inArray_of_inUserSpace {w : Work} (h : w.inUserSpace = true) : w.inArray = true := by
  cases w with
  | readSector n => exact (Bool.and_eq_true_iff.mp h).2
  | programSector n d => exact (Bool.and_eq_true_iff.mp h).2
  | blankBlock b => exact (Bool.and_eq_true_iff.mp h).2
  | _ => rfl

theorem Work.bounds_of_inUserSpace {w : Work} (h : w.inUserSpace = true) :
    (∀ n, w = .readSector n → 32 ≤ n ∧ n < 16384) ∧ (∀ n d, w = .programSector n d → 32 ≤ n ∧ n < 16384) ∧
      ∀ b, w = .blankBlock b → 2 ≤ b ∧ b < 1024 := by
  refine ⟨?_, ?_, ?_⟩
  · rintro n rfl
    exact (Work.inUserSpace_readSector n).mp h
  · rintro n d rfl
    exact (Work.inUserSpace_programSector n d).mp h
  · rintro b rfl
    exact (Work.inUserSpace_blankBlock b).mp h

/-- A record of a valid table keeps off blocks 0 and 1 and ends inside the array (R20). -/
theorem Table.blocks_of_valid {t : Table} (valid : t.valid = true) {i : Index} {x : Partition}
    (h : t.records[i] = some x) : 2 ≤ x.firstBlock ∧ x.firstBlock + x.blockCount ≤ 1024 := by
  have ok := List.all_eq_true.mp valid i (mem_allIndices i)
  simp only [Table.recordValid, h, Partition.inRange, Bool.and_eq_true, decide_eq_true_eq] at ok
  omega

/-- A sector of a partition of a valid table lies in the user space. -/
theorem sector_inUserSpace {first blocks k : Nat} (low : 2 ≤ first) (high : first + blocks ≤ 1024)
    (inside : k < blocks * Config.blockSectors) :
    32 ≤ first * Config.blockSectors + k ∧ first * Config.blockSectors + k < 16384 := by
  simp only [Config.blockSectors] at *
  omega

theorem State.ownBlank_of_not_own {s : State} {p : Port} (h : s.ownSegment p = false) : s.ownBlank p = false := by
  simp [State.ownBlank, h]

/-- The progress of an ACTIVE entry on the record that its command acts on. -/
theorem State.progressInside_of_progressAt {s : State} {p : Port} {e : Entry} {a : Active} {i : Index} {x : Partition}
    (inside : s.progressAt p = true) (active : (s.port p).activeEntry = some (e, a)) (acts : e.cmd.actsOn = some i)
    (record : s.record i = some x) : s.progressInside p x e.cmd a.progress = true := by
  simpa [State.progressAt, active, acts, record] using inside

/-- The work that an ACTIVE command could be granted keeps off blocks 0 and 1 and inside the array, while the live table
is valid and the command's progress is inside its record. -/
theorem State.workOf_inUserSpace {s : State} {p : Port} {e : Entry} {a : Active} {w : Work}
    (valid : s.live.valid = true) (inside : s.progressAt p = true) (active : (s.port p).activeEntry = some (e, a))
    (own : s.ownSegment p = false) (work : s.workOf p e a = some w) : w.inUserSpace = true := by
  have blocks : ∀ {i : Index} {x : Partition}, s.record i = some x →
      2 ≤ x.firstBlock ∧ x.firstBlock + x.blockCount ≤ 1024 := Table.blocks_of_valid valid
  have progress : ∀ {i : Index} {x : Partition}, e.cmd.actsOn = some i → s.record i = some x →
      s.progressInside p x e.cmd a.progress = true := State.progressInside_of_progressAt inside active
  unfold State.workOf at work
  split at work
  case h_1 i start count r cmd pr =>
    split at work
    · cases work
    rename_i x record
    obtain ⟨low, high⟩ := blocks record
    have ok := progress (by rw [cmd]; rfl) record
    split at work
    · rename_i may
      cases work
      simp [State.progressInside, cmd, pr, own, flagCode] at ok may
      exact (Work.inUserSpace_readSector _).mpr (sector_inUserSpace low high (by simp [may] at ok; omega))
    · cases work
  case h_2 i start count c cmd pr =>
    split at work
    · cases work
    rename_i x record
    obtain ⟨low, high⟩ := blocks record
    have ok := progress (by rw [cmd]; rfl) record
    split at work
    · cases work
      simp [State.progressInside, cmd, pr, own, flagCode] at ok
      exact (Work.inUserSpace_readSector _).mpr (sector_inUserSpace low high (by omega))
    · cases work
  case h_3 i start count k cmd pr =>
    split at work
    · cases work
    rename_i x record
    obtain ⟨low, high⟩ := blocks record
    have ok := progress (by rw [cmd]; rfl) record
    split at work
    · rename_i due
      cases work
      simp [State.progressInside, cmd, pr] at ok due
      exact (Work.inUserSpace_programSector _ _).mpr (sector_inUserSpace low high (by omega))
    · cases work
  case h_4 i first count b cmd pr =>
    split at work
    · cases work
    rename_i x record
    obtain ⟨low, high⟩ := blocks record
    have ok := progress (by rw [cmd]; rfl) record
    split at work
    · cases work
      simp [State.progressInside, cmd, pr, own, flagCode] at ok
      exact (Work.inUserSpace_blankBlock _).mpr (by omega)
    · cases work
  case h_5 i which key k cmd pr =>
    split at work
    · cases work
    rename_i x record
    obtain ⟨low, high⟩ := blocks record
    have ok := progress (by rw [cmd]; rfl) record
    split at work
    · cases work
      simp [State.progressInside, cmd, pr, State.ownBlank_of_not_own own, flagCode] at ok
      exact (Work.inUserSpace_blankBlock _).mpr (by omega)
    · split at work
      · cases work; rfl
      · cases work
  case h_10 => cases work
  all_goals
    split at work
    · cases work; rfl
    · cases work

/-- A port's next work is that of its ACTIVE entry, with no segment of it in flight (R69). -/
theorem State.nextWork_eq_some {s : State} {p : Port} {e : Entry} {a : Active} {w : Work}
    (h : s.nextWork p = some (e, a, w)) :
    (s.port p).activeEntry = some (e, a) ∧ s.ownSegment p = false ∧ s.workOf p e a = some w := by
  unfold State.nextWork at h
  split at h
  · cases h
  · rename_i active
    split at h
    · cases h
    · rename_i own
      obtain ⟨_, work, eq⟩ := Option.map_eq_some_iff.mp h
      cases eq
      exact ⟨active, by simpa using own, work⟩

theorem State.progressAt_of_progressLaw {s : State} (law : s.progressLaw = true) (p : Port) : s.progressAt p = true := by
  simp only [State.progressLaw, Bool.and_eq_true] at law
  obtain ⟨⟨⟨⟨-, a⟩, b⟩, c⟩, -⟩ := law
  cases p <;> assumption

/-- Work that could be granted, and the work in flight, keep to the user space while the laws hold (R7). -/
theorem State.work_inUserSpace {s : State} (tables : s.tablesValid = true) (law : s.progressLaw = true) {w : Work}
    (h : (∃ p e a, s.nextWork p = some (e, a, w)) ∨ ∃ g, s.inFlight = some (.segment g) ∧ g.work = w) :
    w.inUserSpace = true := by
  obtain ⟨p, e, a, next⟩ | ⟨g, flight, rfl⟩ := h
  · obtain ⟨active, own, work⟩ := State.nextWork_eq_some next
    simp only [State.tablesValid, Bool.and_eq_true] at tables
    exact State.workOf_inUserSpace tables.1.1 (State.progressAt_of_progressLaw law p) active own work
  · simp only [State.progressLaw, State.segmentInside, flight, Bool.and_eq_true] at law
    exact law.2

/-- Settles O5: only a grant can fault, and work inside its record of a valid table lies in the user space. -/
theorem everyCommandHasANextState : Obligations.EveryCommandHasANextState := by
  refine ⟨fun c s other => exec_next s other, fun s => ?_, fun s tables law =>
    ⟨?_, fun w h => Work.bounds_of_inUserSpace (State.work_inUserSpace tables law h)⟩⟩
  · refine (exec_segmentGrant_cases s).imp_right ?_
    rintro ⟨fault, p, e, a, w, grantee, work, outside⟩
    exact ⟨fault, p, e, a, w, grantee, work, Work.beyond_of_not_inArray outside⟩
  · obtain next | ⟨-, p, e, a, w, -, work, outside⟩ := exec_segmentGrant_cases s
    · exact next
    · have inside := Work.inArray_of_inUserSpace (State.work_inUserSpace tables law (.inl ⟨p, e, a, work⟩))
      simp [outside] at inside

end Sys2Proof.Machine

namespace Sys2Proof.Machine

/-! ### Change counts beside the port that causes them (R132, R169) -/

/-- The bit of an index in a partition set. -/
theorem and_indexBit_ne_zero_iff (w : IndexSet) (i : Index) : w &&& indexBit i ≠ 0 ↔ w.getLsbD i.val = true := by
  have bit : indexBit i = BitVec.twoPow 8 i.val := rfl
  rw [bit, BitVec.and_twoPow]
  split
  · rename_i member
    simp only [member, iff_true]
    intro zero
    have := congrArg (fun x => x.getLsbD i.val) zero
    simp at this
  · rename_i absent
    simp only [absent, Bool.false_eq_true, iff_false, ne_eq, not_not]
    rfl

/-- The port whose command causes a rise keeps its unit. -/
theorem State.port_riseCount_cause (s : State) (i : Index) (p : Port) : (s.riseCount i p).port p = s.port p := by
  rw [State.port_riseCount, if_neg (fun h => h.1 rfl)]

/-- A rise and an update of the port that causes it do not touch each other. -/
theorem State.riseCount_updPort (s : State) (i : Index) (p : Port) (f : PortUnit → PortUnit) :
    (s.riseCount i p).updPort p f = (s.updPort p f).riseCount i p := by
  cases p <;> rfl

/-! ### The ACTIVE entry with new progress -/

/-- The progress of the ACTIVE entry is replaced at the head of the queue. -/
theorem PortUnit.setProgress_of_active {u : PortUnit} {e : Entry} {a : Active} (h : u.activeEntry = some (e, a))
    (pr : Progress) :
    u.setProgress pr = { u with queue := { e with active := some { a with progress := pr } } :: u.queue.tail } := by
  obtain ⟨queue, _⟩ := PortUnit.queue_of_activeEntry h
  simp only [PortUnit.setProgress, h]
  unfold PortUnit.setActive
  rw [queue]
  rfl

/-- The state in which a port's ACTIVE entry `e`, which held `a`, has a new progress and the port other buffers. -/
def State.withProgress (s : State) (p : Port) (e : Entry) (a : Active) (pr : Progress) (bufs : List Buffer) : State :=
  s.setPort p
    { s.port p with
      queue := { e with active := some { a with progress := pr } } :: (s.port p).queue.tail, transfers := bufs }

theorem State.updPort_setProgress {s : State} {p : Port} {e : Entry} {a : Active}
    (h : (s.port p).activeEntry = some (e, a)) (pr : Progress) :
    (s.updPort p fun u => u.setProgress pr) = s.withProgress p e a pr (s.port p).transfers := by
  rw [State.updPort, PortUnit.setProgress_of_active h]
  rfl

/-- The end of an ACTIVE entry whose progress has just been replaced, with its record. -/
theorem State.finish_withProgress (s : State) (p : Port) (e : Entry) (a : Active) (pr : Progress) (bufs : List Buffer)
    (st : Status) :
    (s.withProgress p e a pr bufs).finish p st =
      (s.withProgress p e a pr bufs).endedWith p
        ((s.withProgress p e a pr bufs).endRecord { e with active := some { a with progress := pr } } pr st) := by
  have queue : ((s.withProgress p e a pr bufs).port p).queue =
      { e with active := some { a with progress := pr } } :: (s.port p).queue.tail := by
    rw [State.withProgress, State.port_setPort_same]
  exact State.finish_eq_endedWith st (PortUnit.activeEntry_cons _ _ _ queue)

/-- A rise and the new progress of the port that causes it do not touch each other. -/
theorem State.withProgress_riseCount (s : State) (i : Index) (p : Port) (e : Entry) (a : Active) (pr : Progress)
    (bufs : List Buffer) :
    (s.riseCount i p).withProgress p e a pr bufs = (s.withProgress p e a pr bufs).riseCount i p := by
  cases p <;> rfl

/-! ### The program of a WRITE -/

theorem programReport_of_blank {m : Memory} {n : Nat} (h : Memory.get m n = none) (ok : Bool) :
    programReport m n ok = if ok then .written else .programFailure := by
  simp [programReport, h]

theorem programReport_of_not_blank {m : Memory} {n : Nat} (h : Memory.get m n ≠ none) (ok : Bool) :
    programReport m n ok = .notBlank := by
  obtain ⟨v, h⟩ := Option.ne_none_iff_exists'.mp h
  simp [programReport, h]

/-- The array after a program of a BLANK sector, with the change count risen. -/
theorem State.programmed_of_blank {s : State} {n : Nat} (h : Memory.get s.array n = none) (i : Index) (p : Port)
    (data : List Byte) (ok : Bool) :
    s.programmed i p n data ok =
      ({ s with inFlight := none, array := programSector s.array n (.bytes data) ok } : State).riseCount i p := by
  have changed : programReport s.array n ok ≠ .notBlank := by
    rw [programReport_of_blank h]
    cases ok <;> simp
  simp only [State.programmed, changed, if_false]
  rfl

/-- A program of a sector that is not BLANK changes no count. -/
theorem State.programmed_of_not_blank {s : State} {n : Nat} (h : Memory.get s.array n ≠ none) (i : Index) (p : Port)
    (data : List Byte) (ok : Bool) :
    s.programmed i p n data ok = { s with inFlight := none, array := programSector s.array n (.bytes data) ok } := by
  simp only [State.programmed, programReport_of_not_blank h, if_true]
  rfl

/-- A program changes no count of its port's unit. -/
theorem State.port_programmed (s : State) (i : Index) (p : Port) (n : Nat) (data : List Byte) (ok : Bool) :
    (s.programmed i p n data ok).port p = s.port p := by
  unfold State.programmed
  dsimp only
  split
  · rfl
  · exact State.port_riseCount_cause _ i p

theorem exec_writeProgramEnd {s : State} {p : Port} {i : Index} {start count n : Nat} {removed : Bool}
    {data : List Byte}
    (flight : s.inFlight =
      some (.segment { port := p, cmd := .write i start count, removed := removed, work := .programSector n data }))
    (ok : Bool) :
    exec (.writeProgramEnd ok) s =
      .next (s.writeEnd
        { port := p, cmd := .write i start count, removed := removed, work := .programSector n data } i count n data
        ok).settle := by
  simp only [exec, execWriteProgramEnd, flight]

/-- The end of the program of a WRITE that is still in its queue reports to it. -/
theorem State.writeEnd_of_active {s : State} {g : Segment} {e : Entry} {a : Active} {w : WriteProgress}
    (removed : g.removed = false) (active : (s.port g.port).activeEntry = some (e, a)) (progress : a.progress = .write w)
    (i : Index) (count n : Nat) (data : List Byte) (ok : Bool) :
    s.writeEnd g i count n data ok =
      (s.programmed i g.port n data ok).writeReport g.port count w a.abortPending (programReport s.array n ok) := by
  simp only [State.writeEnd, removed, State.port_programmed, active, progress]
  rfl

/-- The record of a WRITE that ends (R128). -/
def writeRecord (tag : Byte) (i : Index) (w : WriteProgress) (st : Status) : Completion :=
  { Completion.bare tag 3 st with partition := some i, sectorsDone := some w.sectorsDone, failAt := w.failAt }

theorem State.finish_write (s : State) (p : Port) {e : Entry} (a : Active) {i : Index} {start count : Nat}
    (cmd : e.cmd = .write i start count) (w : WriteProgress) (bufs : List Buffer) (st : Status) :
    (s.withProgress p e a (.write w) bufs).finish p st =
      (s.withProgress p e a (.write w) bufs).endedWith p (writeRecord e.tag i w st) :=
  (s.finish_withProgress p e a (.write w) bufs st).trans
    (congrArg _ (State.endRecord_write _ (e := { e with active := some { a with progress := .write w } }) cmd w st))

/-- What "written" does to the WRITE (R124, R127). -/
theorem State.writeReport_written {s : State} {p : Port} {e : Entry} {a : Active} {i : Index} {start count : Nat}
    (active : (s.port p).activeEntry = some (e, a)) (cmd : e.cmd = .write i start count) {w w1 : WriteProgress}
    (counted : w1 = { w with sectorsDone := w.sectorsDone + 1, nextSector := w.nextSector + 1 }) {b : Buffer}
    {rest : List Buffer} (transfers : (s.port p).transfers = b :: rest) {t : State}
    (after : s.withProgress p e a (.write w1) rest = t) :
    s.writeReport p count w a.abortPending .written =
      if a.abortPending then t.endedWith p (writeRecord e.tag i w1 .aborted)
      else if w.sectorsDone + 1 = count then t.endedWith p (writeRecord e.tag i w1 .ok)
      else t := by
  have stepped : (s.updPort p fun u => u.programmedOne w) = t := by
    rw [← after, counted, State.updPort, PortUnit.programmedOne,
      PortUnit.setProgress_of_active (u := { s.port p with transfers := (s.port p).transfers.tail }) active, transfers]
    rfl
  simp only [State.writeReport, stepped]
  rw [← after, State.finish_write s p a cmd, State.finish_write s p a cmd]

/-- What a program that was not "written" does to the WRITE (R125 to R127): it ends with fail_at. -/
theorem State.finish_stoppedAt {s : State} {p : Port} {e : Entry} {a : Active} {i : Index} {start count : Nat}
    (active : (s.port p).activeEntry = some (e, a)) (cmd : e.cmd = .write i start count) {w w1 : WriteProgress}
    (stopped : w1 = { w with failAt := some w.nextSector }) {t : State}
    (after : s.withProgress p e a (.write w1) (s.port p).transfers = t) (st : Status) :
    (s.updPort p fun u => u.stoppedAt w).finish p st = t.endedWith p (writeRecord e.tag i w1 st) := by
  have step : (s.updPort p fun u => u.stoppedAt w) = s.withProgress p e a (.write w1) (s.port p).transfers := by
    rw [stopped]
    exact State.updPort_setProgress active _
  rw [step, State.finish_write s p a cmd, after]

/-- The end of the program of a WRITE that its port's reset removed frees its buffer (R104). -/
theorem exec_writeProgramEnd_of_removed {s : State} {p : Port} {i : Index} {start count n : Nat} {data : List Byte}
    (flight : s.inFlight =
      some (.segment { port := p, cmd := .write i start count, removed := true, work := .programSector n data }))
    (ok : Bool) :
    exec (.writeProgramEnd ok) s = .next ((s.programmed i p n data ok).endRemoved p).settle := by
  rw [exec_writeProgramEnd flight]
  rfl

/-- Settles O52: the sector by `get_programSector`, the count and the notices by `riseCount`, the WRITE by the report of
its program. -/
theorem writeProgramsAreReported : Obligations.WriteProgramsAreReported := by
  refine ⟨fun m n k c ok => get_programSector m n k c ok, fun s i j p q => ⟨s.count_riseCount i j p, ?_⟩,
    fun s p i start count n data ok => ⟨?_, ?_⟩⟩
  · simp only [State.port_riseCount, and_indexBit_ne_zero_iff]
    rfl
  · intro e a w b rest flight active cmd progress transfers after after_eq record record_eq
    have ends := exec_writeProgramEnd flight ok
    rw [State.writeEnd_of_active rfl active progress] at ends
    rw [← s.port_programmed i p n data ok] at active transfers
    have risen : Memory.get s.array n = none → ∀ w1 bufs,
        (s.programmed i p n data ok).withProgress p e a (.write w1) bufs = (after w1 bufs).riseCount i p := by
      intro blank w1 bufs
      rw [State.programmed_of_blank blank, State.withProgress_riseCount, after_eq]
      rfl
    have same : Memory.get s.array n ≠ none → ∀ w1 bufs,
        (s.programmed i p n data ok).withProgress p e a (.write w1) bufs = after w1 bufs := by
      intro full w1 bufs
      rw [State.programmed_of_not_blank full, after_eq]
      rfl
    have record : ∀ st w1, writeRecord e.tag i w1 st = record st w1 := fun st w1 => (record_eq st w1).symm
    refine ⟨fun blank good w1 counted => ?_, fun w1 stopped => ⟨fun blank bad => ?_, fun full => ?_⟩⟩
    · subst good
      have written := State.writeReport_written active cmd counted transfers (risen blank w1 rest)
      rw [ends, programReport_of_blank blank, if_pos rfl, written, record, record]
      refine ⟨fun pending => by rw [if_pos pending], fun free last => ?_, fun free more => ?_⟩
      · rw [free, if_neg Bool.false_ne_true, if_pos last]
      · rw [free, if_neg Bool.false_ne_true, if_neg more]
    · subst bad
      have ended := State.finish_stoppedAt active cmd stopped (risen blank w1 _)
        (orAborted a.abortPending .programFault)
      rw [transfers, record] at ended
      rw [ends, programReport_of_blank blank, if_neg Bool.false_ne_true]
      exact congrArg (fun t => Host.Outcome.next t.settle) ended
    · have ended := State.finish_stoppedAt active cmd stopped (same full w1 _) (orAborted a.abortPending .notBlank)
      rw [transfers, record] at ended
      rw [ends, programReport_of_not_blank full]
      exact congrArg (fun t => Host.Outcome.next t.settle) ended
  · intro flight s1 s1_eq
    rw [exec_writeProgramEnd_of_removed flight]
    refine ⟨fun blank => ?_, fun full => ?_⟩
    · rw [State.programmed_of_blank blank, State.endRemoved, State.riseCount_updPort, s1_eq]
      rfl
    · rw [State.programmed_of_not_blank full, s1_eq]
      rfl

end Sys2Proof.Machine

namespace Sys2Proof.Machine

/-! ### The block blanks of BLANK and WIPE -/

/-- A block blank changes nothing of its port's unit. -/
theorem State.port_blanked (s : State) (i : Index) (p : Port) (b : Nat) : (s.blanked i p b).port p = s.port p :=
  State.port_riseCount_cause _ i p

theorem exec_blankBlockEnd {s : State} {p : Port} {i : Index} {start count b : Nat} {removed : Bool}
    (flight : s.inFlight =
      some (.segment { port := p, cmd := .blank i start count, removed := removed, work := .blankBlock b })) :
    exec .blankBlockEnd s =
      .next (s.blankEnd { port := p, cmd := .blank i start count, removed := removed, work := .blankBlock b } i count
        b).settle := by
  simp only [exec, execBlankBlockEnd, flight]

theorem exec_wipeBlockEnd {s : State} {p : Port} {i : Index} {which : Which} {key : Key} {b : Nat} {removed : Bool}
    (flight : s.inFlight =
      some (.segment { port := p, cmd := .wipe i which key, removed := removed, work := .blankBlock b })) :
    exec .wipeBlockEnd s =
      .next (s.wipeBlockEnd { port := p, cmd := .wipe i which key, removed := removed, work := .blankBlock b } i
        b).settle := by
  simp only [exec, execWipeBlockEnd, flight]

/-- The end of a block of a BLANK that is still in its queue: the block counts (R130, R131). -/
theorem State.blankEnd_of_active {s : State} {g : Segment} {e : Entry} {a : Active} {k : BlankProgress}
    (removed : g.removed = false) (active : (s.port g.port).activeEntry = some (e, a)) (progress : a.progress = .blank k)
    (i : Index) (count b : Nat) {t : State}
    (after : (s.blanked i g.port b).withProgress g.port e a (.blank { k with blocksDone := k.blocksDone + 1 })
      (s.port g.port).transfers = t) :
    s.blankEnd g i count b =
      if a.abortPending then t.finish g.port .aborted
      else if k.blocksDone + 1 = count then t.finish g.port .ok
      else t := by
  rw [← s.port_blanked i g.port b] at active after
  have stepped := (State.updPort_setProgress active (.blank { k with blocksDone := k.blocksDone + 1 })).trans after
  simp only [State.blankEnd, removed, active, progress, Bool.false_eq_true, if_false, stepped]

/-- The end of a block of a WIPE that is still in its queue: the block counts, and the table segment is due after the
last (R134, R136). -/
theorem State.wipeBlockEnd_of_active {s : State} {g : Segment} {e : Entry} {a : Active} {k : WipeProgress}
    (removed : g.removed = false) (active : (s.port g.port).activeEntry = some (e, a)) (progress : a.progress = .wipe k)
    {i : Index} {x : Partition} (record : s.live.records[i] = some x) (b : Nat) {t : State}
    (after : (s.blanked i g.port b).withProgress g.port e a
      (.wipe { k with blocksDone := k.blocksDone + 1, tableDue := decide (k.blocksDone + 1 = x.blockCount) })
      (s.port g.port).transfers = t) :
    s.wipeBlockEnd g i b =
      if a.abortPending then (t.finish g.port .aborted).leaveTableState g.cmd else t := by
  have blocks : s.blockCount i = x.blockCount := by simp only [State.blockCount, State.record, record]
  rw [← s.port_blanked i g.port b] at active after
  have stepped := (State.updPort_setProgress active
    (.wipe { k with blocksDone := k.blocksDone + 1, tableDue := decide (k.blocksDone + 1 = x.blockCount) })).trans after
  simp only [State.wipeBlockEnd, removed, active, progress, Bool.false_eq_true, if_false, blocks, stepped]

theorem State.finish_blank (s : State) (p : Port) {e : Entry} (a : Active) {i : Index} {first count : Nat}
    (cmd : e.cmd = .blank i first count) (k : BlankProgress) (bufs : List Buffer) (st : Status) :
    (s.withProgress p e a (.blank k) bufs).finish p st =
      (s.withProgress p e a (.blank k) bufs).endedWith p
        { Completion.bare e.tag 4 st with partition := some i, sectorsDone := some (16 * k.blocksDone) } :=
  (s.finish_withProgress p e a (.blank k) bufs st).trans
    (congrArg _ (State.endRecord_blank _ (e := { e with active := some { a with progress := .blank k } }) cmd k st))

theorem State.finish_wipe_aborted (s : State) (p : Port) {e : Entry} (a : Active) {i : Index} {which : Which}
    {key : Key} (cmd : e.cmd = .wipe i which key) (k : WipeProgress) (bufs : List Buffer) :
    (s.withProgress p e a (.wipe k) bufs).finish p .aborted =
      (s.withProgress p e a (.wipe k) bufs).endedWith p
        { Completion.bare e.tag 5 .aborted with partition := some i, sectorsDone := some (16 * k.blocksDone) } :=
  (s.finish_withProgress p e a (.wipe k) bufs .aborted).trans
    (congrArg _ (State.endRecord_wipe_aborted _ (e := { e with active := some { a with progress := .wipe k } }) cmd k))

/-- Settles O53: the block by `get_blankBlock`, the BLANK and the WIPE by the end of their block. -/
theorem blockBlanksAreCounted : Obligations.BlockBlanksAreCounted := by
  refine ⟨get_blankBlock, fun s p i b after after_eq => ?_⟩
  have stepped : ∀ e a pr, (s.blanked i p b).withProgress p e a pr (s.port p).transfers = after e a pr := by
    intro e a pr
    rw [after_eq]
    exact State.withProgress_riseCount _ i p e a pr _
  refine ⟨?_, ?_, ?_, ?_⟩
  · intro e a k start count k1 flight active cmd progress counted
    subst counted
    have ends := exec_blankBlockEnd flight
    rw [State.blankEnd_of_active rfl active progress i count b (stepped e a _)] at ends
    have ended := State.finish_blank (s.blanked i p b) p a cmd { k with blocksDone := k.blocksDone + 1 }
      (s.port p).transfers
    rw [stepped] at ended
    refine ⟨fun free more => ?_, ?_⟩
    · rw [ends, free, if_neg Bool.false_ne_true, if_neg more]
    · rintro st (⟨pending, rfl⟩ | ⟨free, last, rfl⟩)
      · rw [ends, if_pos pending, ended]
      · rw [ends, free, if_neg Bool.false_ne_true, if_pos last, ended]
  · intro e a k which key x k1 flight active cmd progress record counted
    subst counted
    have ends := exec_wipeBlockEnd flight
    rw [State.wipeBlockEnd_of_active rfl active progress record b (stepped e a _)] at ends
    have ended := State.finish_wipe_aborted (s.blanked i p b) p a cmd
      { k with blocksDone := k.blocksDone + 1, tableDue := decide (k.blocksDone + 1 = x.blockCount) }
      (s.port p).transfers
    rw [stepped] at ended
    refine ⟨fun free => ?_, fun pending => ?_⟩
    · rw [ends, free, if_neg Bool.false_ne_true]
    · rw [ends, if_pos pending, ended]
      rfl
  · intro start count flight
    exact exec_blankBlockEnd flight
  · intro which key flight
    exact exec_wipeBlockEnd flight

end Sys2Proof.Machine

namespace Sys2Proof.Machine

/-! ### Valid tables (R20) -/

/-- Two defined records share no block. -/
def Partition.Apart (x y : Partition) : Prop :=
  x.firstBlock + x.blockCount ≤ y.firstBlock ∨ y.firstBlock + y.blockCount ≤ x.firstBlock

theorem Partition.Apart.symm {x y : Partition} (h : x.Apart y) : y.Apart x := Or.symm h

theorem Partition.inRange_iff (x : Partition) :
    x.inRange = true ↔
      2 ≤ x.firstBlock ∧ x.firstBlock ≤ 1023 ∧ 1 ≤ x.blockCount ∧ x.blockCount ≤ 1022 ∧
        x.firstBlock + x.blockCount ≤ 1024 ∧ writerReads x.writer x.readers = false := by
  simp [Partition.inRange, and_assoc]

/-- No other defined record has one of the blocks lo to hi - 1. -/
theorem Table.overlaps_eq_false_iff (t : Table) (i : Index) (lo hi : Nat) :
    t.overlaps i lo hi = false ↔
      ∀ (j : Index) (y : Partition), j ≠ i → t.records[j] = some y →
        hi ≤ lo ∨ y.firstBlock + y.blockCount ≤ lo ∨ hi ≤ y.firstBlock := by
  simp only [Table.overlaps, List.any_eq_false, Bool.and_eq_true, decide_eq_true_eq, not_and]
  constructor
  · intro free j y other h
    have := free j (mem_allIndices j) other
    simp only [Record.hasBlockIn, h, Bool.and_eq_true, decide_eq_true_eq] at this
    omega
  · intro free j _ other found
    unfold Record.hasBlockIn at found
    split at found
    · exact Bool.false_ne_true found
    · rename_i y h
      have := free j y other h
      simp only [Bool.and_eq_true, decide_eq_true_eq] at found
      omega

/-- A table is valid when its defined records are in their ranges and pairwise apart. -/
theorem Table.valid_iff (t : Table) :
    t.valid = true ↔
      ∀ (i : Index) (x : Partition), t.records[i] = some x →
        x.inRange = true ∧ ∀ (j : Index) (y : Partition), j ≠ i → t.records[j] = some y → x.Apart y := by
  have record : ∀ i : Index, t.recordValid i = true ↔ ∀ x, t.records[i] = some x →
      x.inRange = true ∧ ∀ (j : Index) (y : Partition), j ≠ i → t.records[j] = some y → x.Apart y := by
    intro i
    unfold Table.recordValid
    split
    · rename_i undefined
      simp [undefined]
    · rename_i x defined
      simp only [defined, Option.some.injEq, forall_eq', Bool.and_eq_true, Bool.not_eq_true',
        Table.overlaps_eq_false_iff]
      refine and_congr_right fun range => forall₄_congr fun j y _ _ => ?_
      have := (Partition.inRange_iff x).mp range
      unfold Partition.Apart
      omega
  simp only [Table.valid, List.all_eq_true, record]
  exact ⟨fun h i => h i (mem_allIndices i), fun h i _ => h i⟩

/-- The records of a table decide whether it is valid. -/
theorem Table.valid_of_records {t u : Table} (h : t.valid = true) (same : u.records = t.records) : u.valid = true := by
  rw [Table.valid_iff] at h ⊢
  rwa [same]

theorem Table.valid_empty : Table.empty.valid = true := by decide

theorem Table.record_withRecord (t : Table) (i j : Index) (r : Record) :
    (t.withRecord i r).records[j] = if j = i then r else t.records[j] := by
  show (t.records.set i r)[j] = _
  simp only [Fin.getElem_fin, Vector.getElem_set, Fin.val_inj, eq_comm]

/-- A valid table stays valid when a record is made undefined, or is defined in its ranges and apart from the others. -/
theorem Table.valid_withRecord {t : Table} (h : t.valid = true) {i : Index} {r : Record}
    (ok : ∀ x, r = some x →
      x.inRange = true ∧ ∀ (j : Index) (y : Partition), j ≠ i → t.records[j] = some y → x.Apart y) :
    (t.withRecord i r).valid = true := by
  rw [Table.valid_iff] at h ⊢
  intro k x defined
  rw [Table.record_withRecord] at defined
  split at defined
  · rename_i here
    subst here
    refine ⟨(ok x defined).1, fun j y other h' => (ok x defined).2 j y other ?_⟩
    rwa [Table.record_withRecord, if_neg other] at h'
  · rename_i elsewhere
    refine ⟨(h k x defined).1, fun j y other h' => ?_⟩
    rw [Table.record_withRecord] at h'
    split at h'
    · rename_i here
      subst here
      exact ((ok y h').2 k x elsewhere defined).symm
    · exact (h k x defined).2 j y other h'

/-- A record that keeps its blocks, with its writer not among its readers, can take the place of the old one. -/
theorem Table.valid_withRecord_of_same_blocks {t : Table} (h : t.valid = true) {i : Index} {x y : Partition}
    (old : t.records[i] = some x) (first : y.firstBlock = x.firstBlock) (count : y.blockCount = x.blockCount)
    (free : writerReads y.writer y.readers = false) : (t.withRecord i (some y)).valid = true := by
  obtain ⟨range, apart⟩ := (Table.valid_iff t).mp h i x old
  rw [Partition.inRange_iff] at range
  refine Table.valid_withRecord h fun z eq => ?_
  cases eq
  refine ⟨(Partition.inRange_iff y).mpr ?_, fun j z other defined => ?_⟩
  · rw [first, count]
    exact ⟨range.1, range.2.1, range.2.2.1, range.2.2.2.1, range.2.2.2.2.1, free⟩
  · have := apart j z other defined
    unfold Partition.Apart at this ⊢
    rwa [first, count]

/-- Giving a record a key, or taking it, keeps the table valid (R149, R151, R134). -/
theorem Table.valid_withLock {t : Table} (h : t.valid = true) (i : Index) (lock : Option KeyLock) :
    (t.withRecord i (Record.withLock t.records[i] lock)).valid = true := by
  cases old : t.records[i] with
  | none => exact Table.valid_withRecord h fun x eq => by simp [Record.withLock] at eq
  | some x =>
    have range := ((Table.valid_iff t).mp h i x old).1
    exact Table.valid_withRecord_of_same_blocks h old rfl rfl ((Partition.inRange_iff x).mp range).2.2.2.2.2

/-! ### The edits keep a table valid (R48 to R51) -/

theorem Table.valid_define {t u : Table} (h : t.valid = true) {index first count writer readers : Nat}
    (new : t.define index first count writer readers = .inr u) : u.valid = true := by
  unfold Table.define at new
  split at new
  · cases new
  rename_i i _
  split at new
  · cases new
  split at new
  · split at new
    · cases new
    rename_i fits
    split at new
    · cases new
    rename_i free
    cases new
    have apart := (t.overlaps_eq_false_iff i first (first + count)).mp (Bool.eq_false_of_not_eq_true free)
    refine Table.valid_withRecord h fun x eq => ?_
    cases eq
    simp only [not_or, Bool.not_eq_true, Nat.not_lt] at fits
    obtain ⟨low, high, least, most, last, reads⟩ := fits
    refine ⟨(Partition.inRange_iff _).mpr ⟨low, high, least, most, last, reads⟩, fun j y other defined => ?_⟩
    have := apart j y other defined
    unfold Partition.Apart
    dsimp only
    omega
  · cases new

theorem Table.valid_delete {t u : Table} (h : t.valid = true) {index : Nat} (new : t.delete index = .inr u) :
    u.valid = true := by
  unfold Table.delete at new
  split at new
  · cases new
  split at new
  · cases new
  · cases new
    exact Table.valid_withRecord h fun x eq => by cases eq

/-- RESIZE looks only at the blocks that the record gains; the others are apart from it already. -/
theorem Table.valid_resize {t u : Table} (h : t.valid = true) {index count : Nat}
    (new : t.resize index count = .inr u) : u.valid = true := by
  unfold Table.resize at new
  split at new
  · cases new
  rename_i i _
  split at new
  · cases new
  rename_i x old
  split at new
  · cases new
  rename_i fits
  split at new
  · cases new
  rename_i free
  cases new
  simp only [not_or, Nat.not_lt] at fits
  obtain ⟨least, most, last⟩ := fits
  obtain ⟨range, apart⟩ := (Table.valid_iff t).mp h i x old
  obtain ⟨low, high, -, -, -, reads⟩ := (Partition.inRange_iff x).mp range
  have gained := (t.overlaps_eq_false_iff i _ _).mp (Bool.eq_false_of_not_eq_true free)
  refine Table.valid_withRecord h fun z eq => ?_
  cases eq
  refine ⟨(Partition.inRange_iff _).mpr ⟨low, high, least, most, last, reads⟩, fun j y other defined => ?_⟩
  have kept := apart j y other defined
  have more := gained j y other defined
  have nonempty := (Partition.inRange_iff y).mp ((Table.valid_iff t).mp h j y defined).1
  unfold Partition.Apart at kept ⊢
  dsimp only
  omega

theorem Table.valid_modify {t u : Table} (h : t.valid = true) {index writer readers : Nat}
    (new : t.modify index writer readers = .inr u) : u.valid = true := by
  unfold Table.modify at new
  split at new
  · cases new
  split at new
  · cases new
  rename_i x old
  split at new
  · split at new
    · cases new
    rename_i reads
    cases new
    exact Table.valid_withRecord_of_same_blocks h old rfl rfl (Bool.eq_false_of_not_eq_true reads)
  · cases new

end Sys2Proof.Machine

namespace Sys2Proof.Machine

/-! ### What leaves the table state as it is -/

@[simp] theorem State.tableState_takeHold (s : State) (p : Port) : (s.takeHold p).tableState = s.tableState := by
  unfold State.takeHold
  repeat' split
  all_goals simp

@[simp] theorem State.tableState_close (s : State) (p : Port) : (s.close p).tableState = s.tableState := by
  unfold State.close
  repeat' split
  all_goals simp

@[simp] theorem State.tableState_watch (s : State) (p : Port) : (s.watch p).tableState = s.tableState := by
  unfold State.watch
  repeat' split
  all_goals simp

@[simp] theorem State.tableState_info (s : State) (p : Port) : (s.info p).tableState = s.tableState := by
  unfold State.info
  dsimp only
  repeat' split
  all_goals simp

@[simp] theorem State.tableState_intervalChanged (s : State) (old : Nat) :
    (s.intervalChanged old).tableState = s.tableState := by
  unfold State.intervalChanged
  split <;> rfl

@[simp] theorem State.tableState_setup (s : State) (p : Port) : (s.setup p).tableState = s.tableState := by
  unfold State.setup
  dsimp only
  repeat' split
  all_goals simp

@[simp] theorem State.tableState_refuseData (s : State) (p : Port) : (s.refuseData p).tableState = s.tableState := rfl

@[simp] theorem State.tableState_output (s : State) (p : Port) (w : Word) :
    (s.output p w).tableState = s.tableState := rfl

@[simp] theorem State.tableState_emptyRead (s : State) (p : Port) : (s.emptyRead p).tableState = s.tableState := rfl

@[simp] theorem State.tableState_dataWrite (s : State) (p : Port) (w : Word) :
    (s.dataWrite p w).tableState = s.tableState := by
  unfold State.dataWrite
  repeat' split
  all_goals simp

@[simp] theorem State.tableState_completeRead (s : State) (p : Port) :
    (s.completeRead p).tableState = s.tableState := by
  unfold State.completeRead
  repeat' split
  all_goals simp

@[simp] theorem State.tableState_dataRead (s : State) (p : Port) : (s.dataRead p).tableState = s.tableState := by
  unfold State.dataRead
  repeat' split
  all_goals simp

@[simp] theorem State.tableState_paramWrite (s : State) (p : Port) (loc : Nat) (w : Word) :
    (s.paramWrite p loc w).tableState = s.tableState := by
  unfold State.paramWrite
  split <;> rfl

@[simp] theorem State.tableState_openIfMatched (s : State) (p : Port) (cmd : QueuedCommand) (st : Status) :
    (s.openIfMatched p cmd st).tableState = s.tableState := by
  unfold State.openIfMatched
  repeat' split
  all_goals rfl

@[simp] theorem State.tableState_standbyExpiry (s : State) : s.standbyExpiry.tableState = s.tableState := by
  unfold State.standbyExpiry
  split <;> simp

@[simp] theorem State.tableState_wakeEnd (s : State) : s.wakeEnd.tableState = s.tableState := by
  unfold State.wakeEnd
  split <;> simp

@[simp] theorem State.tableState_stallExpiry (s : State) (p : Port) :
    (s.stallExpiry p).tableState = s.tableState := by
  unfold State.stallExpiry
  split <;> simp

@[simp] theorem State.tableState_landed (s : State) : s.landed.tableState = s.tableState := rfl

@[simp] theorem State.tableState_readEnd (s : State) (g : Segment) (count : Nat) (report : ReadReport) :
    (s.readEnd g count report).tableState = s.tableState := by
  unfold State.readEnd
  dsimp only [State.endRemoved]
  repeat' split
  all_goals simp

@[simp] theorem State.tableState_checkEnd (s : State) (g : Segment) (count : Nat) (report : ReadReport) :
    (s.checkEnd g count report).tableState = s.tableState := by
  unfold State.checkEnd
  dsimp only
  repeat' split
  all_goals simp

@[simp] theorem State.tableState_programmed (s : State) (i : Index) (p : Port) (n : Nat) (data : List Byte)
    (ok : Bool) : (s.programmed i p n data ok).tableState = s.tableState := by
  unfold State.programmed
  dsimp only
  split <;> rfl

@[simp] theorem State.live_programmed (s : State) (i : Index) (p : Port) (n : Nat) (data : List Byte) (ok : Bool) :
    (s.programmed i p n data ok).live = s.live := by
  unfold State.programmed
  dsimp only
  split <;> rfl

@[simp] theorem State.tableState_writeReport (s : State) (p : Port) (count : Nat) (w : WriteProgress)
    (abortPending : Bool) (report : ProgramReport) :
    (s.writeReport p count w abortPending report).tableState = s.tableState := by
  unfold State.writeReport
  dsimp only
  repeat' split
  all_goals simp

@[simp] theorem State.tableState_writeEnd (s : State) (g : Segment) (i : Index) (count n : Nat) (data : List Byte)
    (ok : Bool) : (s.writeEnd g i count n data ok).tableState = s.tableState := by
  unfold State.writeEnd
  dsimp only [State.endRemoved]
  repeat' split
  all_goals simp

@[simp] theorem State.tableState_blanked (s : State) (i : Index) (p : Port) (b : Nat) :
    (s.blanked i p b).tableState = s.tableState := rfl

@[simp] theorem State.tableState_blankEnd (s : State) (g : Segment) (i : Index) (count b : Nat) :
    (s.blankEnd g i count b).tableState = s.tableState := by
  unfold State.blankEnd
  dsimp only
  repeat' split
  all_goals simp

/-! ### The staged table -/

/-- `t` stages no table that `s` does not stage (R46). -/
def State.StagesNoMore (s t : State) : Prop := ∀ x, t.tableState.staged = some x → s.tableState.staged = some x

theorem State.StagesNoMore.of_eq {s t : State} (h : t.tableState = s.tableState) : s.StagesNoMore t :=
  fun _ staged => h ▸ staged

theorem State.StagesNoMore.of_free {s t : State} (h : t.tableState = .free) : s.StagesNoMore t := by
  intro x staged
  rw [h] at staged
  cases staged

theorem State.StagesNoMore.trans {s t u : State} (h : s.StagesNoMore t) (k : t.StagesNoMore u) : s.StagesNoMore u :=
  fun x staged => h x (k x staged)

theorem State.stagesNoMore_discard (s : State) (p : Port) : s.StagesNoMore (s.discard p) := by
  unfold State.discard
  repeat' split
  · exact .of_eq rfl
  · exact .of_free rfl
  all_goals exact .of_eq rfl

theorem State.leaveTableState_commit_of_committing {s : State} {h : Port} {staged : Table} {lease : Nat}
    (committing : s.tableState = .committing h staged lease) :
    s.leaveTableState .commit = { s with tableState := .claimed h staged lease 0 } := by
  simp only [State.leaveTableState, committing]

/-- A COMMIT that leaves its table state goes back to CLAIMED with the same staged table (R41, R55). -/
theorem State.stagesNoMore_leaveTableState (s : State) (cmd : QueuedCommand) :
    s.StagesNoMore (s.leaveTableState cmd) := by
  cases cmd with
  | commit =>
    cases table : s.tableState with
    | committing h staged lease =>
      rw [State.leaveTableState_commit_of_committing table]
      intro x same
      rwa [table]
    | _ => exact .of_eq (by simp only [State.leaveTableState, table])
  | wipe _ _ _ | setKey _ _ _ | clearKey _ _ | setRecovery _ _ => exact .of_free rfl
  | _ => exact .of_eq rfl

theorem State.stagesNoMore_abort (s : State) (p : Port) : s.StagesNoMore (s.abort p) := by
  unfold State.abort State.abortActive
  repeat' split
  · exact .of_eq (by simp)
  · exact .of_eq (by simp)
  · exact .of_eq (by simp)
  · exact .of_eq (by simp)
  · exact .trans (.of_eq (State.tableState_finish _ p .aborted))
      ((State.stagesNoMore_leaveTableState _ _).trans (.of_eq ((State.tableState_settle _).trans rfl)))

theorem State.enterTableState_commit_of_claimed {s : State} {h : Port} {staged : Table} {lease n : Nat} (p : Port)
    (claimed : s.tableState = .claimed h staged lease n) :
    s.enterTableState p .commit = { s with tableState := .committing h staged lease } := by
  simp only [State.enterTableState, claimed]

/-- A COMMIT that becomes ACTIVE keeps the staged table (R52). -/
theorem State.stagesNoMore_enterTableState (s : State) (p : Port) (cmd : QueuedCommand) :
    s.StagesNoMore (s.enterTableState p cmd) := by
  cases cmd with
  | commit =>
    cases table : s.tableState with
    | claimed h staged lease n =>
      rw [State.enterTableState_commit_of_claimed p table]
      intro x same
      rwa [table]
    | _ => exact .of_eq (by simp only [State.enterTableState, table])
  | wipe _ _ _ | setKey _ _ _ | clearKey _ _ | setRecovery _ _ => exact fun x staged => by cases staged
  | _ => exact .of_eq rfl

theorem State.stagesNoMore_commandStart (s : State) (p : Port) : s.StagesNoMore (s.commandStart p) := by
  unfold State.commandStart
  repeat' split
  · exact .of_eq rfl
  · exact .of_eq (by simp [State.endAtStart])
  · exact .trans (.of_eq (State.tableState_updPort _ _ _))
      ((State.stagesNoMore_enterTableState _ p _).trans (.of_eq (State.tableState_settle _)))
  · exact .of_eq rfl

theorem State.stagesNoMore_tableFault (s : State) (p : Port) (cmd : QueuedCommand) (removed : Bool) :
    s.StagesNoMore (s.tableFault p cmd removed) := by
  unfold State.tableFault
  split
  · exact .of_free rfl
  · exact (s.stagesNoMore_leaveTableState cmd).trans (.of_eq (State.tableState_finish _ _ _))

theorem State.stagesNoMore_wipeBlockEnd (s : State) (g : Segment) (i : Index) (b : Nat) :
    s.StagesNoMore (s.wipeBlockEnd g i b) := by
  unfold State.wipeBlockEnd
  dsimp only
  repeat' split
  · exact .of_free rfl
  · exact .of_eq rfl
  · exact .trans (.of_eq (by simp)) (State.stagesNoMore_leaveTableState _ g.cmd)
  · exact .of_eq rfl
  · exact .of_eq rfl

theorem State.stagesNoMore_leaseExpiry (s : State) : s.StagesNoMore s.leaseExpiry := by
  unfold State.leaseExpiry State.loseClaim
  repeat' split
  · exact .of_free rfl
  all_goals exact .of_eq rfl

theorem State.stagesNoMore_tick (s : State) : s.StagesNoMore s.tick := by
  intro x staged
  cases table : s.tableState with
  | claimed h y lease n => rwa [State.tableState_tick_of_claimed table] at staged
  | _ =>
    rw [State.tableState_tick_of_not_claimed (by simp [table]), table] at staged
    exact staged

/-- A port reset drops the claim of its port or keeps the staged table (R56 to R58). -/
theorem State.stagesNoMore_clearPort (s : State) (p : Port) : s.StagesNoMore (s.clearPort p) := by
  intro x staged
  replace staged : (s.tableStateAfterReset p).staged = some x := staged
  unfold State.tableStateAfterReset at staged
  split at staged
  · cases staged
  all_goals
    rename_i table
    rw [table]
    split at staged
    · cases staged
    · exact staged

/-! ### The new table of the segment in flight -/

/-- The new table that the work of a table segment writes (R25). -/
def Work.newTable : Work → Option Table
  | .tableBlank t => some t
  | .tableHeader t => some t
  | .tableRecords t => some t
  | .readSector _ => none
  | .programSector _ _ => none
  | .blankBlock _ => none

theorem State.newTable_of_segment {s : State} {g : Segment} (h : s.inFlight = some (.segment g)) :
    s.newTable = g.work.newTable := by
  cases work : g.work <;> simp only [State.newTable, h, work, Work.newTable]

theorem State.newTable_of_no_segment {s : State} (h : ∀ g, s.inFlight ≠ some (.segment g)) : s.newTable = none := by
  unfold State.newTable
  split
  · rename_i g flight
    exact absurd flight (h g)
  all_goals rfl

theorem State.newTable_congr {s t : State} (h : t.inFlight = s.inFlight) : t.newTable = s.newTable := by
  unfold State.newTable
  rw [h]

/-- A port reset removes the owner of a segment and not its work (R73, R83). -/
theorem State.newTable_clearPort (s : State) (p : Port) : (s.clearPort p).newTable = s.newTable := by
  cases flight : s.inFlight with
  | none =>
    have cleared : (s.clearPort p).inFlight = none := by rw [State.inFlight_clearPort, flight]; rfl
    rw [State.newTable_congr (cleared.trans flight.symm)]
  | some f =>
    cases f with
    | load got =>
      have cleared : (s.clearPort p).inFlight = some (.load got) := by rw [State.inFlight_clearPort, flight]; rfl
      rw [State.newTable_congr (cleared.trans flight.symm)]
    | segment g =>
      have cleared : (s.clearPort p).inFlight =
          some (.segment (if g.port = p then { g with removed := true } else g)) := by
        rw [State.inFlight_clearPort, flight]; rfl
      rw [State.newTable_of_segment cleared, State.newTable_of_segment flight]
      split <;> rfl

end Sys2Proof.Machine

namespace Sys2Proof.Machine

/-! ### The three tables of a state (R20) -/

/-- The live table, the staged table and the table being written are valid, each where there is one. -/
theorem State.tablesValid_iff (s : State) :
    s.tablesValid = true ↔
      s.live.valid = true ∧ (∀ x, s.tableState.staged = some x → x.valid = true) ∧
        ∀ x, s.newTable = some x → x.valid = true := by
  simp only [State.tablesValid, Bool.and_eq_true, Option.all_eq_true, and_assoc]

/-- Without a table segment in flight only the live and the staged table are in question. -/
theorem State.tablesValid_of_idle {s : State} (idle : s.inFlight = none) (live : s.live.valid = true)
    (staged : ∀ x, s.tableState.staged = some x → x.valid = true) : s.tablesValid = true := by
  refine s.tablesValid_iff.mpr ⟨live, staged, fun x new => ?_⟩
  rw [State.newTable_of_no_segment (by simp [idle])] at new
  cases new

/-- What leaves the live table, the operation in flight and the staged table, or drops that, keeps the tables valid. -/
theorem State.tablesValid_of_stagesNoMore {s t : State} (h : s.tablesValid = true) (live : t.live = s.live)
    (flight : t.inFlight = s.inFlight) (staged : s.StagesNoMore t) : t.tablesValid = true := by
  obtain ⟨hl, hs, hn⟩ := s.tablesValid_iff.mp h
  refine t.tablesValid_iff.mpr ⟨live ▸ hl, fun x eq => hs x (staged x eq), ?_⟩
  rwa [State.newTable_congr flight]

theorem State.SameCourse.tablesValid {s t : State} (c : s.SameCourse t) (staged : s.StagesNoMore t)
    (h : s.tablesValid = true) : t.tablesValid = true :=
  State.tablesValid_of_stagesNoMore h c.live c.inFlight staged

/-- The end of the operation in flight leaves the live and the staged table. -/
theorem State.tablesValid_of_landed {s t : State} (h : s.tablesValid = true) (live : t.live = s.live)
    (idle : t.inFlight = none) (staged : s.StagesNoMore t) : t.tablesValid = true := by
  obtain ⟨hl, hs, -⟩ := s.tablesValid_iff.mp h
  exact State.tablesValid_of_idle idle (live ▸ hl) fun x eq => hs x (staged x eq)

theorem State.tablesValid_settle {s : State} (h : s.tablesValid = true) : s.settle.tablesValid = true :=
  s.sameCourse_settle.tablesValid (.of_eq s.tableState_settle) h

/-- The table that a table segment in flight writes is valid. -/
theorem State.newTable_valid {s : State} (h : s.tablesValid = true) {g : Segment} {new : Table}
    (flight : s.inFlight = some (.segment g)) (work : g.work.newTable = some new) : new.valid = true :=
  (s.tablesValid_iff.mp h).2.2 new ((State.newTable_of_segment flight).trans work)

/-! ### Accesses of the window -/

theorem State.tablesValid_answer {s : State} (h : s.tablesValid = true) (p : Port) (ws : Vector Word 8) :
    (s.answer p ws).tablesValid = true :=
  (s.sameCourse_answer p ws).tablesValid (.of_eq rfl) h

/-- A claim stages the live table, and a renewed one keeps the staged table (R42). -/
theorem State.tablesValid_claim {s : State} (h : s.tablesValid = true) (p : Port) : (s.claim p).tablesValid = true := by
  obtain ⟨live, staged, new⟩ := s.tablesValid_iff.mp h
  unfold State.claim
  dsimp only
  split
  · exact State.tablesValid_answer h p _
  split
  · exact State.tablesValid_answer h p _
  split
  · exact State.tablesValid_answer h p _
  split
  · exact (State.tablesValid_iff _).mpr ⟨live, fun x eq => Option.some.inj eq ▸ live, new⟩
  · rename_i claimed
    split
    · exact (State.tablesValid_iff _).mpr ⟨live, fun x eq => staged x (by rw [claimed]; exact eq), new⟩
    · exact State.tablesValid_answer h p _
  all_goals exact State.tablesValid_answer h p _

/-- An edit that changes a valid table into a valid one keeps the staged table valid (R47). -/
theorem State.tablesValid_edit {s : State} (h : s.tablesValid = true) (p : Port) {f : Table → Nat ⊕ Table}
    (keeps : ∀ t u, t.valid = true → f t = .inr u → u.valid = true) : (s.edit p f).tablesValid = true := by
  obtain ⟨live, staged, new⟩ := s.tablesValid_iff.mp h
  unfold State.edit
  split
  · exact State.tablesValid_answer h p _
  split
  · rename_i holder t lease n claimed
    split
    · split
      · exact State.tablesValid_answer h p _
      · rename_i u changed
        have valid : u.valid = true := keeps t u (staged t (by rw [claimed]; rfl)) changed
        exact (State.tablesValid_iff _).mpr ⟨live, fun x eq => Option.some.inj eq ▸ valid, new⟩
    · exact State.tablesValid_answer h p _
  · split
    all_goals exact State.tablesValid_answer h p _
  all_goals exact State.tablesValid_answer h p _

theorem State.WindowEffect.tablesValid {s t : State} {p : Port} (h : s.tablesValid = true)
    (e : s.WindowEffect p t) : t.tablesValid = true := by
  have same := e.sameCourse
  cases e with
  | claim => exact State.tablesValid_claim h p
  | define => exact State.tablesValid_edit h p fun _ _ valid new => Table.valid_define valid new
  | delete => exact State.tablesValid_edit h p fun _ _ valid new => Table.valid_delete valid new
  | resize => exact State.tablesValid_edit h p fun _ _ valid new => Table.valid_resize valid new
  | modify => exact State.tablesValid_edit h p fun _ _ valid new => Table.valid_modify valid new
  | discard => exact same.tablesValid (s.stagesNoMore_discard p) h
  | abort => exact same.tablesValid (s.stagesNoMore_abort p) h
  | close => exact same.tablesValid (.of_eq (s.tableState_close p)) h
  | hold => exact same.tablesValid (.of_eq (s.tableState_takeHold p)) h
  | watch => exact same.tablesValid (.of_eq (s.tableState_watch p)) h
  | info => exact same.tablesValid (.of_eq (s.tableState_info p)) h
  | setup => exact same.tablesValid (.of_eq (s.tableState_setup p)) h
  | dataWrite w => exact same.tablesValid (.of_eq (s.tableState_dataWrite p w)) h
  | dataRead => exact same.tablesValid (.of_eq (s.tableState_dataRead p)) h
  | paramWrite loc w => exact same.tablesValid (.of_eq (s.tableState_paramWrite p loc w)) h
  | _ => exact same.tablesValid (.of_eq rfl) h

/-! ### Table segments and the load -/

/-- The table that a table segment composes is valid: its records are the live or the staged ones, but for a key
(R25). -/
theorem State.valid_composed {s : State} (h : s.tablesValid = true) (cmd : QueuedCommand) :
    (s.composed cmd).valid = true := by
  obtain ⟨live, staged, -⟩ := s.tablesValid_iff.mp h
  cases cmd with
  | commit =>
    cases table : s.tableState with
    | committing holder t lease =>
      have same : (s.composed .commit).records = t.records := by simp only [State.composed, table]
      exact Table.valid_of_records (staged t (by rw [table]; rfl)) same
    | _ => exact Table.valid_of_records live (by simp only [State.composed, table])
  | setKey i key mode => exact Table.valid_of_records (Table.valid_withLock live i (some ⟨key, mode⟩)) rfl
  | clearKey i _ | wipe i _ _ => exact Table.valid_of_records (Table.valid_withLock live i none) rfl
  | _ => exact Table.valid_of_records live rfl

/-- The work that an ACTIVE command could be granted writes no table, or begins to write the composed one. -/
theorem State.newTable_workOf {s : State} {p : Port} {e : Entry} {a : Active} {w : Work}
    (work : s.workOf p e a = some w) : w.newTable = none ∨ w = .tableBlank (s.composed e.cmd) := by
  unfold State.workOf at work
  repeat' split at work
  all_goals cases work
  all_goals simp [Work.newTable]

theorem State.tablesValid_tableFault {s : State} (h : s.tablesValid = true) (p : Port) (cmd : QueuedCommand)
    (removed : Bool) : (s.tableFault p cmd removed).tablesValid = true :=
  (s.sameCourse_tableFault p cmd removed).tablesValid (s.stagesNoMore_tableFault p cmd removed) h

/-- A grant puts in flight no table segment, or one that writes the composed table. -/
theorem State.tablesValid_grant {s : State} (h : s.tablesValid = true) {p q : Port} {e : Entry} {a : Active} {w : Work}
    (work : s.workOf q e a = some w) : (s.grant p e a w).tablesValid = true := by
  unfold State.grant
  split
  · exact State.tablesValid_settle
      (State.tablesValid_tableFault (s := { s with lastGranted := p, standbyTimer := none }) h p e.cmd false)
  · obtain ⟨live, staged, -⟩ := s.tablesValid_iff.mp h
    refine State.tablesValid_settle ((State.tablesValid_iff _).mpr ⟨live, staged, fun x new => ?_⟩)
    rw [State.newTable_of_segment (g := { port := p, cmd := e.cmd, removed := false, work := w }) rfl] at new
    obtain none | table := State.newTable_workOf work
    · rw [none] at new
      cases new
    · rw [table] at new
      cases new
      exact State.valid_composed h e.cmd

/-- A table segment that goes on writes the same table. -/
theorem State.tablesValid_goOn {s : State} (h : s.tablesValid = true) {g : Segment}
    (flight : s.inFlight = some (.segment g)) {w : Work} (same : w.newTable = g.work.newTable)
    (array : Memory) : (s.goOn g w array).tablesValid = true := by
  obtain ⟨live, staged, new⟩ := s.tablesValid_iff.mp h
  refine (State.tablesValid_iff _).mpr ⟨live, staged, ?_⟩
  rw [State.newTable_of_segment flight, ← same] at new
  rwa [State.newTable_of_segment (g := { g with work := w }) rfl]

theorem State.tablesValid_landed {s : State} (h : s.tablesValid = true) (array : Memory) :
    ({ s.landed with array := array } : State).tablesValid = true :=
  State.tablesValid_of_landed h rfl rfl (.of_eq rfl)

theorem State.tablesValid_headerEnd {s : State} (h : s.tablesValid = true) {g : Segment} {new : Table}
    (flight : s.inFlight = some (.segment g)) (work : g.work = .tableHeader new) (ok : Bool) :
    (s.headerEnd g new ok).tablesValid = true := by
  unfold State.headerEnd
  dsimp only
  split
  · exact State.tablesValid_goOn h flight (by rw [work]; rfl) _
  · exact State.tablesValid_settle (State.tablesValid_tableFault (State.tablesValid_landed h _) _ _ _)

/-- At a switchover the new table becomes the live one, and none is staged (R30). -/
theorem State.tablesValid_switchover (s : State) {g : Segment} {new : Table} (idle : s.inFlight = none)
    (valid : new.valid = true) : (s.switchover g new).tablesValid = true := by
  have made : ((s.endChanged g new).makeLive g new).tablesValid = true :=
    State.tablesValid_of_idle ((s.sameCourse_endChanged g new).inFlight.trans idle) valid fun x eq => by cases eq
  unfold State.switchover
  dsimp only
  split
  · exact made
  · exact (State.sameCourse_finish _ _ _).tablesValid (.of_eq (State.tableState_finish _ _ _)) made

theorem State.tablesValid_recordsEnd {s : State} (h : s.tablesValid = true) {g : Segment} {new : Table}
    (flight : s.inFlight = some (.segment g)) (work : g.work = .tableRecords new) (ok : Bool) :
    (s.recordsEnd g new ok).tablesValid = true := by
  unfold State.recordsEnd
  dsimp only
  split
  · exact State.tablesValid_settle
      (State.tablesValid_switchover _ rfl (State.newTable_valid h flight (by rw [work]; rfl)))
  · exact State.tablesValid_settle (State.tablesValid_tableFault (State.tablesValid_landed h _) _ _ _)

/-- A slot gives a table exactly when it is valid as R23 says. -/
theorem slotTable_eq_some_iff (first second : ReadReport) (t : Table) :
    slotTable first second = some t ↔
      ∃ h r, first = .data (.header h) ∧ second = .data (.records r) ∧ h.mark = Config.headerMark ∧
        h.check = Config.headerCheck h.mark h.generation h.recovery ∧
        r.check = Config.recordsCheck r.generation r.records ∧ h.generation = r.generation ∧ t.valid = true ∧
        t = { generation := h.generation, recovery := h.recovery, records := r.records } := by
  unfold slotTable
  split
  · rename_i h r
    simp only [HeaderSector.good, RecordsSector.good, Bool.and_eq_true, decide_eq_true_eq,
      Option.ite_none_right_eq_some, Option.some.injEq, ReadReport.data.injEq, Content.header.injEq,
      Content.records.injEq]
    constructor
    · rintro ⟨⟨⟨⟨⟨mark, check⟩, records⟩, generation⟩, valid⟩, rfl⟩
      exact ⟨h, r, rfl, rfl, mark, check, records, generation, valid, rfl⟩
    · rintro ⟨_, _, rfl, rfl, mark, check, records, generation, valid, rfl⟩
      exact ⟨⟨⟨⟨⟨mark, check⟩, records⟩, generation⟩, valid⟩, rfl⟩
  · rename_i other
    simp only [reduceCtorEq, false_iff]
    rintro ⟨h, r, first, second, -⟩
    exact other h r first second

theorem slotTable_valid {first second : ReadReport} {t : Table} (h : slotTable first second = some t) :
    t.valid = true := by
  obtain ⟨_, _, -, -, -, -, -, -, valid, -⟩ := (slotTable_eq_some_iff first second t).mp h
  exact valid

/-- The load chooses the table of a valid slot, or the empty table (R36). -/
theorem loadChoice_valid {t0 t1 : Option Table} (h0 : ∀ t, t0 = some t → t.valid = true)
    (h1 : ∀ t, t1 = some t → t.valid = true) : (loadChoice t0 t1).1.valid = true := by
  unfold loadChoice
  split
  · split
    · exact h1 _ rfl
    · exact h0 _ rfl
  · exact h0 _ rfl
  · exact h1 _ rfl
  · exact Table.valid_empty

theorem State.tablesValid_loadEnd {s : State} (h : s.tablesValid = true) (got : List ReadReport) :
    (s.loadEnd got).tablesValid = true := by
  obtain ⟨live, staged, -⟩ := s.tablesValid_iff.mp h
  unfold State.loadEnd
  split
  · refine (State.tablesValid_iff _).mpr ⟨live, staged, fun x new => ?_⟩
    rw [State.newTable_of_no_segment (fun g load => by cases load)] at new
    cases new
  · exact State.tablesValid_settle
      (State.tablesValid_of_idle rfl (loadChoice_valid (fun _ => slotTable_valid) fun _ => slotTable_valid) staged)

/-! ### Resets, and the law over a step -/

theorem State.tablesValid_resetPort {s : State} (h : s.tablesValid = true) (p : Port) :
    (s.resetPort p).tablesValid = true := by
  obtain ⟨live, staged, new⟩ := s.tablesValid_iff.mp h
  refine State.tablesValid_settle ((State.tablesValid_iff _).mpr
    ⟨live, fun x eq => staged x (s.stagesNoMore_clearPort p x eq), ?_⟩)
  rwa [State.newTable_congr (State.inFlight_updPort _ _ _), State.newTable_clearPort]

/-- After a part reset and without supply there is the empty table alone. -/
theorem State.tablesValid_of_cleared {s : State} (live : s.live = Table.empty) (free : s.tableState = .free)
    (idle : ∀ g, s.inFlight ≠ some (.segment g)) : s.tablesValid = true := by
  refine s.tablesValid_iff.mpr ⟨by rw [live]; exact Table.valid_empty, fun x eq => ?_, fun x eq => ?_⟩
  · rw [free] at eq
    cases eq
  · rw [State.newTable_of_no_segment idle] at eq
    cases eq

theorem startLoad_ne_segment (line : Bool) (g : Segment) : startLoad line ≠ some (.segment g) := by
  cases line <;> simp [startLoad]

theorem State.Event.tablesValid {s t : State} (h : s.tablesValid = true) (e : s.Event t) : t.tablesValid = true := by
  cases e with
  | nothing => exact h
  | commandStart p => exact (s.sameCourse_commandStart p).tablesValid (s.stagesNoMore_commandStart p) h
  | grant _ _ work _ =>
    obtain ⟨-, -, work⟩ := State.nextWork_eq_some work
    exact State.tablesValid_grant h work
  | readEnd _ _ _ =>
    have same := s.sameCourse_readEnd
    exact State.tablesValid_settle
      (State.tablesValid_of_landed h (same _ _ _).live (same _ _ _).inFlight (.of_eq (s.tableState_readEnd _ _ _)))
  | checkEnd _ _ _ =>
    have same := s.sameCourse_checkEnd
    exact State.tablesValid_settle
      (State.tablesValid_of_landed h (same _ _ _).live (same _ _ _).inFlight (.of_eq (s.tableState_checkEnd _ _ _)))
  | writeEnd ok _ _ _ =>
    have same := s.sameCourse_writeEnd
    exact State.tablesValid_settle
      (State.tablesValid_of_landed h ((same _ _ _ _ _ _).live.trans (s.live_programmed _ _ _ _ _))
        ((same _ _ _ _ _ _).inFlight.trans (s.inFlight_programmed _ _ _ _ _))
        (.of_eq (s.tableState_writeEnd _ _ _ _ _ _)))
  | blankEnd _ _ _ =>
    have same := s.sameCourse_blankEnd
    exact State.tablesValid_settle (State.tablesValid_of_landed h (same _ _ _ _).live (same _ _ _ _).inFlight
      (.of_eq (s.tableState_blankEnd _ _ _ _)))
  | wipeBlockEnd _ _ _ =>
    have same := s.sameCourse_wipeBlockEnd
    exact State.tablesValid_settle (State.tablesValid_of_landed h (same _ _ _).live (same _ _ _).inFlight
      (s.stagesNoMore_wipeBlockEnd _ _ _))
  | tableBlankEnd flight work => exact State.tablesValid_goOn h flight (by rw [work]; rfl) _
  | headerEnd ok flight work => exact State.tablesValid_headerEnd h flight work ok
  | recordsEnd ok flight work => exact State.tablesValid_recordsEnd h flight work ok
  | loadEnd _ => exact State.tablesValid_loadEnd h _
  | standbyExpiry => exact s.sameCourse_standbyExpiry.tablesValid (.of_eq s.tableState_standbyExpiry) h
  | wakeEnd => exact s.sameCourse_wakeEnd.tablesValid (.of_eq s.tableState_wakeEnd) h
  | leaseExpiry => exact s.sameCourse_leaseExpiry.tablesValid s.stagesNoMore_leaseExpiry h
  | stallExpiry p => exact (s.sameCourse_stallExpiry p).tablesValid (.of_eq (s.tableState_stallExpiry p)) h
  | tick => exact s.sameCourse_tick.tablesValid s.stagesNoMore_tick h
  | resetPort p _ _ => exact State.tablesValid_resetPort h p
  | withPrst p level => exact h
  | partReset begun _ => exact State.tablesValid_of_cleared rfl rfl fun g flight => by cases flight
  | partResetUnpowered _ => exact h
  | releaseReset _ =>
    obtain ⟨live, staged, new⟩ := s.tablesValid_iff.mp h
    unfold State.releaseReset
    split
    · refine (State.tablesValid_iff _).mpr ⟨live, staged, fun x eq => ?_⟩
      rw [State.newTable_of_no_segment (startLoad_ne_segment false)] at eq
      cases eq
    · exact h
  | powerOn begun => exact State.tablesValid_of_cleared rfl rfl (startLoad_ne_segment _)
  | powerLoss begun _ => exact State.tablesValid_of_cleared rfl rfl fun g flight => by cases flight

/-- Settles O12: the edits and the composed tables are valid when the tables they are made from are, a slot that gives a
table gives a valid one, and nothing else makes a table. -/
theorem tablesStayValid : Obligations.TablesStayValid := by
  intro s t hs h
  exact step_induction (I := fun s => s.tablesValid = true) (J := fun s => s.tablesValid = true)
    (fun _ _ h => h) (fun _ _ _ h => h) (fun _ _ _ h => h) (fun h e => e.tablesValid h)
    (fun h e => e.tablesValid h) h hs

end Sys2Proof.Machine

namespace Sys2Proof.Machine

/-! ### The start-up load (R35 to R37) -/

/-- The end of a read of the load adds its report to those before it (R35). -/
theorem exec_loadReadEnd {s : State} {got : List ReadReport} (flight : s.inFlight = some (.load got)) {n : Nat}
    (sector : loadSector got.length = n) :
    exec .loadReadEnd s = .next (s.loadEnd (got ++ [readSector s.array n])) := by
  simp only [exec, execLoadReadEnd, flight, sector]

/-- Before its fourth end the load goes on with its next read. -/
theorem State.loadEnd_of_more (s : State) {got : List ReadReport} (more : got.length < 4) :
    s.loadEnd got = { s with inFlight := some (.load got) } := by
  rw [State.loadEnd, if_pos more]

/-- At its fourth end the load takes the table and the slot of R36. -/
theorem State.loadEnd_of_four (s : State) {r0 r1 r2 r3 : ReadReport} {live : Table} {slot : Fin 2}
    (choice : loadChoice (slotTable r0 r1) (slotTable r2 r3) = (live, slot)) :
    s.loadEnd [r0, r1, r2, r3] =
      { s with
        inFlight := none, part := .ready, live := live, currentSlot := slot,
        ports := s.ports.mapPorts fun _ u => { u with latched := { u.latched with ready := true } } }.settle := by
  show (s.loaded (slotTable r0 r1) (slotTable r2 r3)).settle = _
  rw [State.loaded, choice]
  rfl

/-- Settles O56: the four reads one by one, and at the fourth the choice by which of the two slots are valid. -/
theorem loadBuildsTheLiveTable : Obligations.LoadBuildsTheLiveTable := by
  refine ⟨slotTable_eq_some_iff, fun s => ⟨fun flight => ?_, fun r0 flight => ?_, fun r0 r1 flight => ?_,
    fun r0 r1 r2 live slot flight choice => ?_⟩⟩
  · rw [exec_loadReadEnd flight (show loadSector 0 = 0 by decide), State.loadEnd_of_more _ (by simp)]
    rfl
  · rw [exec_loadReadEnd flight (show loadSector 1 = 1 by decide), State.loadEnd_of_more _ (by simp)]
    rfl
  · rw [exec_loadReadEnd flight (show loadSector 2 = 16 by decide), State.loadEnd_of_more _ (by simp)]
    rfl
  · rw [exec_loadReadEnd flight (show loadSector 3 = 17 by decide)]
    refine congrArg Host.Outcome.next (s.loadEnd_of_four ?_)
    cases first : slotTable r0 r1 <;> cases second : slotTable r2 (readSector s.array 17) <;>
      rw [first, second] at choice
    case some.some x y =>
      obtain ⟨older, rfl, rfl⟩ | ⟨newer, rfl, rfl⟩ := choice
      · exact if_pos older
      · exact if_neg (Nat.not_lt.mpr newer)
    all_goals
      obtain ⟨rfl, rfl⟩ := choice
      rfl

end Sys2Proof.Machine

namespace Sys2Proof.Machine

/-! ### The operations of a table segment (R24, R26) -/

theorem exec_tableBlockBlankEnd {s : State} {g : Segment} {new : Table} (flight : s.inFlight = some (.segment g))
    (work : g.work = .tableBlank new) :
    exec .tableBlockBlankEnd s = .next (s.goOn g (.tableHeader new) (blankBlock s.array s.tableSlot.val)) := by
  simp only [exec, execTableBlockBlankEnd, flight, work]

theorem exec_tableHeaderProgramEnd {s : State} {g : Segment} {new : Table} (flight : s.inFlight = some (.segment g))
    (work : g.work = .tableHeader new) (ok : Bool) :
    exec (.tableHeaderProgramEnd ok) s = .next (s.headerEnd g new ok) := by
  simp only [exec, execTableHeaderProgramEnd, flight, work]

theorem exec_tableRecordsProgramEnd {s : State} {g : Segment} {new : Table} (flight : s.inFlight = some (.segment g))
    (work : g.work = .tableRecords new) (ok : Bool) :
    exec (.tableRecordsProgramEnd ok) s = .next (s.recordsEnd g new ok) := by
  simp only [exec, execTableRecordsProgramEnd, flight, work]

/-- A program of a BLANK sector leaves it WRITTEN or DAMAGED (R5). -/
theorem programSector_of_blank {m : Memory} {n : Nat} (h : Memory.get m n = none) (c : Content) (ok : Bool) :
    programSector m n c ok = Memory.put m n (if ok then writtenSector n c else .damaged) := by
  unfold programSector
  rw [programReport_of_blank h]
  cases ok <;> rfl

/-- Sector k of the slot that a table segment writes (R24). -/
theorem State.slotSector_tableSlot {s : State} {slot : Nat} (two : slot < 2) (other : slot ≠ s.currentSlot.val)
    (k : Nat) : slotSector s.tableSlot k = 16 * slot + k :=
  slotSector_otherSlot two other k

/-- The header sector written, the segment goes on with the records sector (R26). -/
theorem State.headerEnd_of_written {s : State} {n : Nat} (sector : slotSector s.tableSlot 0 = n)
    (blank : Memory.get s.array n = none) (g : Segment) (new : Table) :
    s.headerEnd g new true =
      s.goOn g (.tableRecords new) (Memory.put s.array n (writtenSector n (.header new.headerSector))) := by
  simp only [State.headerEnd, sector, programReport_of_blank blank, programSector_of_blank blank, if_true]

/-- A program failure of either sector is a table fault, with the sector DAMAGED (R28). -/
theorem State.headerEnd_of_failure {s : State} {n : Nat} (sector : slotSector s.tableSlot 0 = n)
    (blank : Memory.get s.array n = none) (g : Segment) (new : Table) :
    s.headerEnd g new false =
      (({ s with inFlight := none, array := Memory.put s.array n .damaged } : State).tableFault g.port g.cmd
        g.removed).settle := by
  simp [State.headerEnd, sector, programReport_of_blank blank, programSector_of_blank blank, State.landed]

theorem State.recordsEnd_of_failure {s : State} {n : Nat} (sector : slotSector s.tableSlot 1 = n)
    (blank : Memory.get s.array n = none) (g : Segment) (new : Table) :
    s.recordsEnd g new false =
      (({ s with inFlight := none, array := Memory.put s.array n .damaged } : State).tableFault g.port g.cmd
        g.removed).settle := by
  simp [State.recordsEnd, sector, programReport_of_blank blank, programSector_of_blank blank, State.landed]

/-- The records sector written, the table is switched over (R30). -/
theorem State.recordsEnd_of_written {s : State} {n : Nat} (sector : slotSector s.tableSlot 1 = n)
    (blank : Memory.get s.array n = none) (g : Segment) (new : Table) :
    s.recordsEnd g new true =
      (({ s with
          inFlight := none,
          array := Memory.put s.array n (writtenSector n (.records new.recordsSector)) } : State).switchover g
        new).settle := by
  simp only [State.recordsEnd, sector, programReport_of_blank blank, programSector_of_blank blank, if_true,
    State.landed]

/-! ### The record of a command that ends with its table segment (R137, section 8.10) -/

/-- The sectors that a WIPE has blanked; the other commands of a table segment count none (R137). -/
def Progress.sectorsWiped : Progress → Option Nat
  | .wipe k => some (16 * k.blocksDone)
  | _ => none

/-- The record of a command that ends with its table segment, at the given live generation (R137, R162). -/
def tableRecord (e : Entry) (pr : Progress) (st : Status) (generation : Word32) : Completion :=
  { Completion.bare e.tag e.cmd.code st with
    partition := e.cmd.part, sectorsDone := pr.sectorsWiped, generation := some generation }

/-- The outcome of a table segment is recorded with the live generation. -/
theorem State.endRecord_of_table (s : State) {e : Entry} {pr : Progress} {st : Status}
    (holds : e.cmd.holdsTable = true) (keeps : e.cmd.keeps pr = true) (outcome : st.ofTableSegment = true) :
    s.endRecord e pr st = tableRecord e pr st s.live.generation := by
  cases cmd : e.cmd with
  | commit | setKey _ _ _ | clearKey _ _ | setRecovery _ _ =>
    cases pr with
    | job due =>
      simp [State.endRecord, tableRecord, cmd, outcome, Progress.sectorsWiped, Completion.bare, QueuedCommand.part]
    | _ => simp [cmd, QueuedCommand.keeps] at keeps
  | wipe i which key =>
    cases pr with
    | wipe k =>
      simp [State.endRecord, tableRecord, cmd, outcome, Progress.sectorsWiped, Completion.bare, Config.blockSectors,
        Nat.mul_comm]
    | _ => simp [cmd, QueuedCommand.keeps] at keeps
  | _ => simp [cmd, QueuedCommand.holdsTable] at holds

/-- The owner of a table fault ends COMMIT_FAULT and leaves its table state (R28, R54). -/
theorem State.tableFault_of_active {s : State} {p : Port} {e : Entry} {a : Active} {table : TableState}
    (active : (s.port p).activeEntry = some (e, a)) (holds : e.cmd.holdsTable = true)
    (keeps : e.cmd.keeps a.progress = true) (leaves : s.leaveTableState e.cmd = { s with tableState := table }) :
    s.tableFault p e.cmd false =
      { s.endedWith p (tableRecord e a.progress .commitFault s.live.generation) with tableState := table } := by
  have ended := State.finish_eq_endedWith (s := { s with tableState := table }) .commitFault active
  rw [State.endRecord_of_table _ holds keeps rfl] at ended
  simp only [State.tableFault, Bool.false_eq_true, if_false, leaves, ended]
  rfl

/-- Settles O54: each program on the other slot's sector, and the table fault by the owner's command. -/
theorem tableSegmentsWriteTheOtherSlot : Obligations.TableSegmentsWriteTheOtherSlot := by
  intro s g new slot two other flight
  have sector := State.slotSector_tableSlot two other
  refine ⟨fun work => ?_, fun work blank header header_eq => ?_, fun c n which blank s1 s1_eq => ?_⟩
  · rw [exec_tableBlockBlankEnd flight work, State.tableSlot, val_otherSlot two other]
    rfl
  · rw [exec_tableHeaderProgramEnd flight work, State.headerEnd_of_written (sector 0) blank, header_eq]
    rfl
  · have fault : exec c s = .next (s1.tableFault g.port g.cmd g.removed).settle := by
      rw [s1_eq]
      obtain ⟨rfl, work, rfl⟩ | ⟨rfl, work, rfl⟩ := which
      · rw [exec_tableHeaderProgramEnd flight work, State.headerEnd_of_failure (sector 0) blank]
        rfl
      · rw [exec_tableRecordsProgramEnd flight work, State.recordsEnd_of_failure (sector 1) blank]
    refine ⟨fun removed => ?_, fun e a kept active cmd => ?_⟩
    · rw [fault, removed]
      rfl
    · rw [kept, ← cmd] at fault
      have same : s1.tableState = s.tableState ∧ s1.live = s.live := by rw [s1_eq]; exact ⟨rfl, rfl⟩
      replace active : (s1.port g.port).activeEntry = some (e, a) := by rw [s1_eq]; exact active
      have ends : ∀ {table record}, e.cmd.holdsTable = true → e.cmd.keeps a.progress = true →
          s1.leaveTableState e.cmd = { s1 with tableState := table } →
          tableRecord e a.progress .commitFault s.live.generation = record →
          exec c s = .next { s1.endedWith g.port record with tableState := table }.settle := by
        intro table record holds keeps leaves made
        rw [fault, State.tableFault_of_active active holds keeps leaves, same.2, made]
      simp only [← cmd]
      refine ⟨fun h staged lease due commit progress committing => ?_, fun i key mode due job progress => ?_,
        fun i key due job progress => ?_, fun k old due job progress => ?_, fun i which key k job progress => ?_⟩
      · have leaves := State.leaveTableState_commit_of_committing (same.1.trans committing)
        rw [commit, progress] at ends
        exact ends rfl rfl leaves (by rw [tableRecord, commit]; rfl)
      all_goals
        rw [job, progress] at ends
        exact ends rfl rfl rfl (by rw [tableRecord, job]; rfl)

end Sys2Proof.Machine

namespace Sys2Proof.Machine

/-! ### The open sets and the change counts at a switchover (R32, R33) -/

theorem PortSet.get_single (p q : Port) : (PortSet.single p).get q = true ↔ p = q := by
  cases p <;> cases q <;> decide

theorem PortSet.get_empty (q : Port) : PortSet.empty.get q = false := by cases q <;> rfl

theorem Partition.permits_iff (x : Partition) (q : Port) :
    x.permits q = true ↔ x.writer = some q ∨ x.readers.get q = true := by
  simp [Partition.permits]

/-- A port is open after a switchover when it is permitted on the keyed record and was open under the same key and
key_mode, or has just set another one (R32). -/
theorem get_alignOpen (old new : Record) (o : PortSet) (setter : Option Port) (q : Port) :
    (alignOpen old new o setter).get q = true ↔
      ∃ x l, new = some x ∧ x.lock = some l ∧ x.permits q = true ∧
        ((old.bind Partition.lock = some l ∧ o.get q = true) ∨
          (old.bind Partition.lock ≠ some l ∧ setter = some q)) := by
  unfold alignOpen
  split
  · simp [PortSet.get_empty]
  rename_i x
  split
  · rename_i unkeyed
    simp [PortSet.get_empty, unkeyed]
  rename_i l keyed
  simp only [Option.some.injEq, exists_and_left, exists_eq_left', keyed]
  split
  · rename_i same
    simp [PortSet.permitted, same, and_comm]
  rename_i differ
  split
  · simp [PortSet.get_empty, differ]
  rename_i p
  have setting : (if x.permits p = true then PortSet.single p else PortSet.empty).get q = true ↔
      x.permits p = true ∧ p = q := by
    split
    · rename_i permits
      simp [PortSet.get_single, permits]
    · rename_i permits
      simp [PortSet.get_empty, permits]
  rw [setting]
  constructor
  · rintro ⟨permits, rfl⟩
    exact ⟨permits, .inr ⟨differ, rfl⟩⟩
  · rintro ⟨permits, ⟨same, -⟩ | ⟨-, set⟩⟩
    · exact absurd same differ
    · cases set
      exact ⟨permits, rfl⟩

/-- The setter of an index is the port whose SET KEY of it owns the segment and has not been reset. -/
theorem Segment.setter_eq_some_iff (g : Segment) (i : Index) (q : Port) :
    g.setter i = some q ↔ q = g.port ∧ g.removed = false ∧ ∃ key mode, g.cmd = .setKey i key mode := by
  unfold Segment.setter
  split
  · rename_i j key mode cmd
    rw [cmd]
    constructor
    · intro h
      obtain ⟨⟨rfl, removed⟩, port⟩ := Option.ite_none_right_eq_some.mp h
      exact ⟨(Option.some.inj port).symm, removed, key, mode, rfl⟩
    · rintro ⟨rfl, removed, _, _, eq⟩
      cases eq
      rw [if_pos ⟨rfl, removed⟩]
  · rename_i other
    simp only [reduceCtorEq, false_iff]
    rintro ⟨-, -, key, mode, cmd⟩
    exact other i key mode cmd

theorem alignCount_eq (old new : Record) (count : Word32) :
    alignCount old new count = if old ≠ none ∧ new ≠ none then count else 0 := by
  cases old <;> cases new <;> simp [alignCount]

/-! ### The ends of R31 at one port -/

/-- A port's ACTIVE command ends at a switchover when it is not the owner and acts on a record that differs. -/
theorem State.endsAtSwitchover_iff (s : State) (g : Segment) (new : Table) (q : Port) :
    s.endsAtSwitchover g new q = true ↔
      (q ≠ g.port ∨ g.removed = true) ∧
        ∃ e a i, (s.port q).activeEntry = some (e, a) ∧ e.cmd.actsOn = some i ∧
          s.live.records[i] ≠ new.records[i] := by
  unfold State.endsAtSwitchover
  simp only [Bool.and_eq_true, Bool.or_eq_true, decide_eq_true_eq]
  refine and_congr_right fun _ => ?_
  split
  · rename_i idle
    simp [idle]
  · rename_i e a active
    split
    · rename_i none
      simp [active, none]
    · rename_i i acts
      simp [active, acts]

/-- The record of an ended entry is made from the live table and the change counts. -/
theorem State.endRecord_congr {s t : State} (live : t.live = s.live) (counts : t.counts = s.counts) (e : Entry)
    (pr : Progress) (st : Status) : t.endRecord e pr st = s.endRecord e pr st := by
  simp only [State.endRecord, live, counts]

theorem State.port_finish_congr {s t : State} (c : s.SameCourse t) {q : Port} (port : t.port q = s.port q)
    (st : Status) : (t.finish q st).port q = (s.finish q st).port q := by
  have removed : t.removedSegment q = s.removedSegment q := by simp only [State.removedSegment, c.inFlight]
  cases active : (s.port q).activeEntry with
  | none =>
    rw [State.finish_of_idle st active, State.finish_of_idle st (port ▸ active), port]
  | some x =>
    obtain ⟨e, a⟩ := x
    rw [State.finish_of_active st active, State.finish_of_active st (port ▸ active), State.port_setPort_same,
      State.port_setPort_same, port, removed, State.endRecord_congr c.live c.counts]

theorem State.port_endIfChanged_of_ne (s : State) (g : Segment) (new : Table) {q r : Port} (h : q ≠ r) :
    (s.endIfChanged g new r).port q = s.port q := by
  unfold State.endIfChanged
  split
  · exact s.port_finish_of_ne _ h
  · rfl

theorem State.port_endIfChanged_congr {s t : State} (c : s.SameCourse t) {q : Port} (port : t.port q = s.port q)
    (g : Segment) (new : Table) : (t.endIfChanged g new q).port q = (s.endIfChanged g new q).port q := by
  have ends : t.endsAtSwitchover g new q = s.endsAtSwitchover g new q := by
    simp only [State.endsAtSwitchover, port, c.live]
  unfold State.endIfChanged
  rw [ends]
  split
  · exact State.port_finish_congr c port _
  · exact port

/-- The ends at the other ports do not touch a port. -/
theorem State.port_endChanged (s : State) (g : Segment) (new : Table) (q : Port) :
    (s.endChanged g new).port q = (s.endIfChanged g new q).port q := by
  have atA := s.sameCourse_endIfChanged g new .a
  have atB := State.sameCourse_endIfChanged (s.endIfChanged g new .a) g new .b
  have others : ∀ {p : Port}, q ≠ p → ∀ t : State, (t.endIfChanged g new p).port q = t.port q :=
    fun h t => t.port_endIfChanged_of_ne g new h
  unfold State.endChanged
  cases q with
  | a => rw [others (by decide), others (by decide)]
  | b => rw [others (by decide), State.port_endIfChanged_congr atA (others (by decide) s)]
  | c =>
    exact State.port_endIfChanged_congr (atA.trans atB)
      ((others (by decide) _).trans (others (by decide) s)) g new

/-- With nothing in flight the end of an entry frees all its port's buffers (R94). -/
theorem State.keptBuffers_of_idle {s : State} (idle : s.inFlight = none) (u : PortUnit) (p : Port) :
    u.keptBuffers (s.removedSegment p) = [] := by
  simp [PortUnit.keptBuffers, State.removedSegment, idle]

/-- An ACTIVE command on a record that differs ends PARTITION_CHANGED with its buffers freed (R31). -/
theorem State.port_endChanged_of_changed {s : State} (idle : s.inFlight = none) {g : Segment} {new : Table} {q : Port}
    (other : q ≠ g.port ∨ g.removed = true) {e : Entry} {a : Active} {i : Index}
    (active : (s.port q).activeEntry = some (e, a)) (acts : e.cmd.actsOn = some i)
    (differs : s.live.records[i] ≠ new.records[i]) :
    (s.endChanged g new).port q =
      { s.port q with
        queue := (s.port q).queue.tail,
        completions := (s.port q).completions ++ [s.endRecord e a.progress .partitionChanged],
        reserved := (s.port q).reserved - 1, transfers := [], offset := 0, moved := 0, stallTimer := none } := by
  have ends := (s.endsAtSwitchover_iff g new q).mpr ⟨other, e, a, i, active, acts, differs⟩
  rw [State.port_endChanged, State.endIfChanged, if_pos ends, State.finish_of_active _ active, State.port_setPort_same,
    State.keptBuffers_of_idle idle]

/-- The owner, and a port whose ACTIVE command acts on no record that differs, keep their unit. -/
theorem State.port_endChanged_of_kept {s : State} {g : Segment} {new : Table} {q : Port}
    (kept : s.endsAtSwitchover g new q = false) : (s.endChanged g new).port q = s.port q := by
  rw [State.port_endChanged, State.endIfChanged, kept, if_neg Bool.false_ne_true]

@[simp] theorem State.held_endIfChanged (s : State) (g : Segment) (new : Table) (q : Port) :
    (s.endIfChanged g new q).held = s.held := by
  unfold State.endIfChanged
  split <;> simp

@[simp] theorem State.openSets_endIfChanged (s : State) (g : Segment) (new : Table) (q : Port) :
    (s.endIfChanged g new q).openSets = s.openSets := by
  unfold State.endIfChanged
  split <;> simp

@[simp] theorem State.held_endChanged (s : State) (g : Segment) (new : Table) :
    (s.endChanged g new).held = s.held := by simp [State.endChanged]

@[simp] theorem State.openSets_endChanged (s : State) (g : Segment) (new : Table) :
    (s.endChanged g new).openSets = s.openSets := by simp [State.endChanged]

@[simp] theorem State.latched_finish (s : State) (p q : Port) (st : Status) :
    ((s.finish p st).port q).latched = (s.port q).latched := by
  by_cases h : q = p
  · subst h
    cases active : (s.port q).activeEntry with
    | none => rw [State.finish_of_idle st active]
    | some x => rw [State.finish_of_active st active, State.port_setPort_same]
  · rw [State.port_finish_of_ne s st h]

@[simp] theorem State.latched_endChanged (s : State) (g : Segment) (new : Table) (q : Port) :
    ((s.endChanged g new).port q).latched = (s.port q).latched := by
  rw [State.port_endChanged]
  unfold State.endIfChanged
  split <;> simp

/-! ### What the switchover leaves (R29 to R34) -/

/-- TABLE is set at the ports other than the issuing one (R34). -/
theorem State.port_makeLive (s : State) (g : Segment) (new : Table) (q : Port) :
    (s.makeLive g new).port q =
      if q = g.port then s.port q else { s.port q with latched := { (s.port q).latched with table := true } } := by
  show (PerPort.mapPorts _ _).get q = _
  rw [PerPort.get_mapPorts]
  rfl

theorem State.queue_makeLive (s : State) (g : Segment) (new : Table) (q : Port) :
    ((s.makeLive g new).port q).queue = (s.port q).queue := by
  rw [State.port_makeLive]
  split <;> rfl

theorem State.transfers_makeLive (s : State) (g : Segment) (new : Table) (q : Port) :
    ((s.makeLive g new).port q).transfers = (s.port q).transfers := by
  rw [State.port_makeLive]
  split <;> rfl

theorem State.completions_makeLive (s : State) (g : Segment) (new : Table) (q : Port) :
    ((s.makeLive g new).port q).completions = (s.port q).completions := by
  rw [State.port_makeLive]
  split <;> rfl

/-- The owner's completion is the last part of a switchover, unless its port has been reset. -/
theorem State.switchover_of_removed {g : Segment} (removed : g.removed = true) (s : State) (new : Table) :
    s.switchover g new = (s.endChanged g new).makeLive g new := by
  rw [State.switchover, if_pos removed]

theorem State.switchover_of_owned {g : Segment} (owned : g.removed = false) (s : State) (new : Table) :
    s.switchover g new = ((s.endChanged g new).makeLive g new).finish g.port .ok := by
  rw [State.switchover, owned, if_neg Bool.false_ne_true]

/-- At a port without the owner a switchover does no more than end the changed commands and set TABLE. -/
theorem State.port_switchover_of_other {g : Segment} {q : Port} (other : q ≠ g.port ∨ g.removed = true) (s : State)
    (new : Table) : (s.switchover g new).port q = ((s.endChanged g new).makeLive g new).port q := by
  cases removed : g.removed with
  | true => rw [State.switchover_of_removed removed]
  | false =>
    have ne : q ≠ g.port := other.resolve_right (by simp [removed])
    rw [State.switchover_of_owned removed, State.port_finish_of_ne _ _ ne]

/-- At the owner's port a switchover ends the owner, with the new generation. -/
theorem State.port_switchover_of_owner {s : State} (idle : s.inFlight = none) {g : Segment} (owned : g.removed = false)
    {e : Entry} {a : Active} (active : (s.port g.port).activeEntry = some (e, a)) (holds : e.cmd.holdsTable = true)
    (keeps : e.cmd.keeps a.progress = true) (new : Table) :
    (s.switchover g new).port g.port =
      { s.port g.port with
        queue := (s.port g.port).queue.tail,
        completions := (s.port g.port).completions ++ [tableRecord e a.progress .ok new.generation],
        reserved := (s.port g.port).reserved - 1, transfers := [], offset := 0, moved := 0, stallTimer := none } := by
  have kept : s.endsAtSwitchover g new g.port = false := by
    rw [Bool.eq_false_iff, ne_eq, State.endsAtSwitchover_iff]
    rintro ⟨other, -⟩
    simp [owned] at other
  have made : ((s.endChanged g new).makeLive g new).port g.port = s.port g.port := by
    rw [State.port_makeLive, if_pos rfl, State.port_endChanged_of_kept kept]
  have landed : ((s.endChanged g new).makeLive g new).inFlight = none :=
    (s.sameCourse_endChanged g new).inFlight.trans idle
  rw [State.switchover_of_owned owned, State.finish_of_active .ok (made ▸ active), State.port_setPort_same, made,
    State.endRecord_of_table _ holds keeps rfl, State.keptBuffers_of_idle landed]
  rfl

theorem State.tableState_switchover (s : State) (g : Segment) (new : Table) :
    (s.switchover g new).tableState = .free := by
  unfold State.switchover
  dsimp only
  split <;> simp [State.makeLive]

theorem State.held_switchover (s : State) (g : Segment) (new : Table) : (s.switchover g new).held = s.held := by
  unfold State.switchover
  dsimp only
  split <;> simp [State.makeLive]

theorem State.openSets_switchover (s : State) (g : Segment) (new : Table) (i : Index) :
    (s.switchover g new).openSets[i] =
      alignOpen s.live.records[i] new.records[i] s.openSets[i] (g.setter i) := by
  have live := (s.sameCourse_endChanged g new).live
  have made : (s.switchover g new).openSets = ((s.endChanged g new).makeLive g new).openSets := by
    unfold State.switchover
    dsimp only
    split <;> simp
  rw [made]
  simp [State.makeLive, live]

theorem State.counts_switchover (s : State) (g : Segment) (new : Table) (i : Index) :
    (s.switchover g new).counts[i] = alignCount s.live.records[i] new.records[i] s.counts[i] := by
  have ended := s.sameCourse_endChanged g new
  rw [(s.sameCourse_switchover g new).counts]
  simp [State.makeLive, ended.live, ended.counts]

theorem State.latched_switchover (s : State) (g : Segment) (new : Table) (q : Port) :
    ((s.switchover g new).port q).latched.table = (decide (q ≠ g.port) || (s.port q).latched.table) := by
  have made : ((s.switchover g new).port q).latched = (((s.endChanged g new).makeLive g new).port q).latched := by
    unfold State.switchover
    dsimp only
    split <;> simp
  rw [made, State.port_makeLive]
  split
  · rename_i owner
    simp [owner]
  · rename_i other
    simp [other]

/-! ### The records of R31 -/

theorem State.endRecord_check (s : State) {e : Entry} {i : Index} {start count : Nat}
    (cmd : e.cmd = .check i start count) (c : CheckProgress) (st : Status) :
    s.endRecord e (.check c) st =
      { Completion.bare e.tag 2 st with
        partition := some i, sectorsDone := some c.sectorsDone, blankMet := some c.blankMet,
        damagedMet := some c.damagedMet, firstDamaged := c.firstDamaged } := by
  simp [State.endRecord, cmd, QueuedCommand.code, QueuedCommand.part, Completion.bare]

/-! ### Settling leaves the port units but for the stall timers -/

@[simp] theorem State.queue_settle (s : State) (p : Port) : (s.settle.port p).queue = (s.port p).queue := by
  rw [State.port_settle]

@[simp] theorem State.transfers_settle (s : State) (p : Port) : (s.settle.port p).transfers = (s.port p).transfers := by
  rw [State.port_settle]

@[simp] theorem State.completions_settle (s : State) (p : Port) :
    (s.settle.port p).completions = (s.port p).completions := by
  rw [State.port_settle]

@[simp] theorem State.latched_settle (s : State) (p : Port) : (s.settle.port p).latched = (s.port p).latched := by
  rw [State.port_settle]

/-- Settles O55: the fields of the switchover one by one, after the program of the records sector. -/
theorem switchoverMakesTheTableLive : Obligations.SwitchoverMakesTheTableLive := by
  intro s g new slot two other flight work blank
  have ends := exec_tableRecordsProgramEnd flight work true
  rw [State.recordsEnd_of_written (State.slotSector_tableSlot two other 1) blank] at ends
  generalize written : ({ s with
    inFlight := none,
    array := Memory.put s.array (16 * slot + 1)
      (writtenSector (16 * slot + 1) (.records new.recordsSector)) } : State) = s1 at ends
  have port : ∀ q, s1.port q = s.port q := fun q => by rw [← written]; rfl
  have idle : s1.inFlight = none := by rw [← written]
  have live : s1.live = s.live := by rw [← written]
  have counts : s1.counts = s.counts := by rw [← written]
  have openSets : s1.openSets = s.openSets := by rw [← written]
  have ended := s1.sameCourse_endChanged g new
  have course := s1.sameCourse_switchover g new
  refine ⟨_, ends, ?live, ?slot, ?table, ?flight, ?part, ?held, ?frame, ?granted, ?array, ?counts, ?opens, ?latched,
    ?others, ?owner, fun e i n m => ⟨fun r cmd => s.endRecord_read cmd r _, fun c cmd => s.endRecord_check cmd c _,
      fun w cmd => s.endRecord_write cmd w _, fun b cmd => s.endRecord_blank cmd b _⟩⟩
  case live => exact course.settle.live
  case slot =>
    rw [course.settle.currentSlot, ← val_otherSlot two other]
    show (otherSlot (s1.endChanged g new).currentSlot).val = _
    rw [ended.currentSlot, ← written]
  case table => rw [State.tableState_settle, State.tableState_switchover]
  case flight => exact course.settle.inFlight.trans (ended.inFlight.trans idle)
  case part => exact course.settle.part.trans (ended.part.trans (by rw [← written]))
  case held => rw [State.held_settle, State.held_switchover, ← written]
  case frame => exact course.settle.frame.trans (ended.frame.trans (by rw [← written]))
  case granted => exact course.settle.lastGranted.trans (ended.lastGranted.trans (by rw [← written]))
  case array =>
    rintro records rfl
    exact course.settle.array.trans (ended.array.trans (by rw [← written]; rfl))
  case counts =>
    intro i
    simp only [State.counts_settle, State.counts_switchover, live, counts, alignCount_eq]
  case opens =>
    intro i q
    simp only [State.openSets_settle, State.openSets_switchover, live, openSets, get_alignOpen, Partition.permits_iff,
      Segment.setter_eq_some_iff, Option.bind_eq_some_iff, ne_eq, not_exists, not_and]
  case latched =>
    intro q
    rw [State.latched_settle, State.latched_switchover, port]
  case others =>
    intro q otherPort
    simp only [State.queue_settle, State.transfers_settle, State.completions_settle,
      State.port_switchover_of_other otherPort, State.queue_makeLive, State.transfers_makeLive,
      State.completions_makeLive]
    refine ⟨fun e a i active acts differs => ?_, fun same => ?_⟩
    · rw [← port] at active
      rw [← live] at differs
      rw [State.port_endChanged_of_changed idle otherPort active acts differs, port, State.endRecord_congr live counts]
      exact ⟨rfl, rfl, rfl⟩
    · have kept : s1.endsAtSwitchover g new q = false := by
        rw [Bool.eq_false_iff, ne_eq, State.endsAtSwitchover_iff]
        rintro ⟨-, e, a, i, active, acts, differs⟩
        rw [port] at active
        rw [live] at differs
        exact differs (same e a i active acts)
      rw [State.port_endChanged_of_kept kept, port]
      exact ⟨rfl, rfl, rfl⟩
  case owner =>
    intro e a owned active holds keeps
    rw [← port] at active
    simp only [State.queue_settle, State.transfers_settle, State.completions_settle,
      State.port_switchover_of_owner idle owned active holds keeps, port]
    refine ⟨trivial, trivial, _, rfl, rfl, rfl, rfl, rfl, rfl, ?code, ?sectors, rfl, rfl, rfl, rfl, rfl, rfl⟩
    case code =>
      show e.cmd.code = _
      cases cmd : e.cmd with
      | commit | wipe _ _ _ | setKey _ _ _ | clearKey _ _ | setRecovery _ _ => rfl
      | _ => simp [cmd, QueuedCommand.holdsTable] at holds
    case sectors =>
      show a.progress.sectorsWiped = _
      cases a.progress <;> rfl

end Sys2Proof.Machine

namespace Sys2Proof.Machine

/-! ### No entry becomes ACTIVE -/

/-- Behind the oldest entry every entry is QUEUED (R60). -/
def PortUnit.QueuedBehind (u : PortUnit) : Prop := ∀ e ∈ u.queue.tail, e.active = none

theorem PortUnit.queuedBehind_of_queueLaw {u : PortUnit} (law : u.queueLaw = true) : u.QueuedBehind := by
  simp only [PortUnit.queueLaw, Bool.and_eq_true] at law
  obtain ⟨⟨-, behind⟩, -⟩ := law
  exact fun e mem => Option.isNone_iff_eq_none.mp (List.all_eq_true.mp behind e mem)

/-- The ACTIVE command is told by the queue alone. -/
theorem PortUnit.activeCommand_congr {u v : PortUnit} (h : v.queue = u.queue) : v.activeCommand = u.activeCommand := by
  unfold PortUnit.activeCommand PortUnit.activeEntry
  rw [h]

theorem PortUnit.activeCommand_of_active {u : PortUnit} {e : Entry} {a : Active} (h : u.activeEntry = some (e, a)) :
    u.activeCommand = some e.cmd := by
  rw [PortUnit.activeCommand, h]
  rfl

/-- A queue of QUEUED entries has no ACTIVE command. -/
theorem PortUnit.activeCommand_of_queued {u : PortUnit} (h : ∀ e ∈ u.queue, e.active = none) :
    u.activeCommand = none := by
  have : u.noneActive = true := List.all_eq_true.mpr fun e mem => by simp [h e mem]
  rw [PortUnit.activeCommand, PortUnit.activeEntry_of_noneActive this]
  rfl

/-- From `u` to `v` no entry becomes ACTIVE: an ACTIVE command of `v` is the one of `u`. -/
def PortUnit.NoNewActive (u v : PortUnit) : Prop :=
  u.QueuedBehind → v.QueuedBehind ∧ ∀ c, v.activeCommand = some c → u.activeCommand = some c

theorem PortUnit.NoNewActive.of_queue {u v : PortUnit} (h : v.queue = u.queue) : u.NoNewActive v := by
  intro behind
  refine ⟨fun e mem => behind e (h ▸ mem), fun c active => ?_⟩
  rwa [← PortUnit.activeCommand_congr h]

theorem PortUnit.NoNewActive.trans {u v w : PortUnit} (h : u.NoNewActive v) (k : v.NoNewActive w) :
    u.NoNewActive w := by
  intro behind
  obtain ⟨behindV, activeV⟩ := h behind
  obtain ⟨behindW, activeW⟩ := k behindV
  exact ⟨behindW, fun c active => activeV c (activeW c active)⟩

/-- The oldest entry leaves the queue. -/
theorem PortUnit.NoNewActive.of_tail {u v : PortUnit} (h : v.queue = u.queue.tail) : u.NoNewActive v := by
  intro behind
  have queued : ∀ e ∈ v.queue, e.active = none := fun e mem => behind e (h ▸ mem)
  refine ⟨fun e mem => queued e (List.mem_of_mem_tail mem), fun c active => ?_⟩
  rw [PortUnit.activeCommand_of_queued queued] at active
  cases active

/-- The ACTIVE entry is exchanged for one of the same command. -/
theorem PortUnit.NoNewActive.of_active {u v : PortUnit} {e f : Entry} {a : Active}
    (active : u.activeEntry = some (e, a)) (cmd : f.cmd = e.cmd) (queue : v.queue = f :: u.queue.tail) : u.NoNewActive v := by
  intro behind
  refine ⟨fun x mem => behind x (by simpa [queue] using mem), fun c found => ?_⟩
  rw [PortUnit.activeCommand, PortUnit.activeEntry_cons v f _ queue] at found
  obtain ⟨_, entry, rfl⟩ := Option.map_eq_some_iff.mp found
  obtain ⟨_, -, rfl⟩ := Option.map_eq_some_iff.mp entry
  rw [PortUnit.activeCommand_of_active active, cmd]

theorem PortUnit.noNewActive_setActive (u : PortUnit) {e : Entry} {a : Active} (active : u.activeEntry = some (e, a))
    (b : Active) : u.NoNewActive (u.setActive b) := by
  obtain ⟨queue, -⟩ := PortUnit.queue_of_activeEntry active
  refine .of_active (f := { e with active := some b }) active rfl ?_
  unfold PortUnit.setActive
  rw [queue]
  rfl

theorem PortUnit.noNewActive_setProgress (u : PortUnit) (pr : Progress) : u.NoNewActive (u.setProgress pr) := by
  cases active : u.activeEntry with
  | none => exact .of_queue (by simp only [PortUnit.setProgress, active])
  | some x =>
    obtain ⟨e, a⟩ := x
    rw [PortUnit.setProgress_of_active active]
    exact .of_active (f := { e with active := some { a with progress := pr } }) active rfl rfl

/-- New progress after a change beside the queue. -/
theorem PortUnit.noNewActive_setProgress_of_queue {u v : PortUnit} (h : v.queue = u.queue) (pr : Progress) :
    u.NoNewActive (v.setProgress pr) :=
  .trans (.of_queue h) (v.noNewActive_setProgress pr)

/-- An issue appends a QUEUED entry, or none. -/
theorem PortUnit.noNewActive_issueQueued (u : PortUnit) (tag : Byte) (given : Option QueuedCommand) :
    u.NoNewActive (u.issueQueued tag given) := by
  intro behind
  refine ⟨?_, fun c active => ?_⟩
  · unfold PortUnit.issueQueued
    split
    · exact behind
    split
    · exact behind
    split
    · exact behind
    · intro e mem
      replace mem : e ∈ (u.queue ++ [_]).tail := mem
      cases queue : u.queue with
      | nil => simp [queue] at mem
      | cons x rest =>
        simp only [queue, List.cons_append, List.tail_cons, List.mem_append, List.mem_singleton] at mem
        obtain old | new := mem
        · exact behind e (by rwa [queue])
        · rw [new]
  · have same := (u.sameTimers_issueQueued tag given).activeEntry
    rwa [PortUnit.activeCommand, same] at active

/-- An ABORT takes a QUEUED entry out of the queue. -/
theorem PortUnit.noNewActive_eraseP (u : PortUnit) (tag : Byte) :
    u.NoNewActive { u with queue := u.queue.eraseP fun e => decide (e.tag = tag) } := by
  cases queue : u.queue with
  | nil => exact .of_queue (by simp [queue])
  | cons x rest =>
    by_cases oldest : x.tag = tag
    · exact .of_tail (by simp [queue, oldest])
    · intro behind
      refine ⟨fun e mem => behind e ?_, fun c active => ?_⟩
      · simp only [List.eraseP_cons, oldest, decide_false, cond_false, List.tail_cons] at mem
        rw [queue]
        exact List.mem_of_mem_eraseP mem
      · simpa [PortUnit.activeCommand, PortUnit.activeEntry, queue, oldest] using active

@[simp] theorem PortUnit.queue_pop (u : PortUnit) : u.pop.queue = u.queue := by
  unfold PortUnit.pop
  split <;> rfl

@[simp] theorem PortUnit.queue_fill (u : PortUnit) (w : Word) : (u.fill w).queue = u.queue := by
  unfold PortUnit.fill
  split
  · rfl
  · dsimp only
    split <;> rfl

theorem PortUnit.noNewActive_drain (u : PortUnit) (b : Buffer) (rest : List Buffer) (r : ReadProgress) :
    u.NoNewActive (u.drain b rest r) := by
  unfold PortUnit.drain
  split
  · refine PortUnit.noNewActive_setProgress_of_queue ?_ _
    rfl
  · exact .of_queue rfl

theorem PortUnit.noNewActive_readReport (u : PortUnit) (r : ReadProgress) (count : Nat) (report : ReadReport) :
    u.NoNewActive (u.readReport r count report) := by
  cases report
  all_goals
    refine PortUnit.noNewActive_setProgress_of_queue ?_ _
    rfl

theorem PortUnit.noNewActive_mount (u : PortUnit) (pr : Progress) : u.NoNewActive (u.mount pr) := by
  cases pr with
  | write w =>
    unfold PortUnit.mount
    dsimp only
    split <;> exact .of_queue rfl
  | _ =>
    refine PortUnit.noNewActive_setProgress_of_queue ?_ _
    rfl

/-! ### No COMMIT or table job appears -/

/-- A removed COMMIT or table job is told by the segment in flight. -/
theorem State.removedJob_eq_some_iff (s : State) (g : Segment) :
    s.removedJob = some g ↔ s.inFlight = some (.segment g) ∧ g.removed = true ∧ g.cmd.holdsTable = true := by
  unfold State.removedJob
  split
  · rename_i flight
    simp only [Option.ite_none_right_eq_some, Bool.and_eq_true, Option.some.injEq, flight, InFlight.segment.injEq]
    constructor
    · rintro ⟨⟨removed, holds⟩, rfl⟩
      exact ⟨rfl, removed, holds⟩
    · rintro ⟨rfl, removed, holds⟩
      exact ⟨⟨removed, holds⟩, rfl⟩
  · rename_i flight
    simp [flight]
  · rename_i flight
    simp [flight]

theorem State.removedJob_congr {s t : State} (h : t.inFlight = s.inFlight) : t.removedJob = s.removedJob := by
  unfold State.removedJob
  rw [h]

/-- From `s` to `t` no entry becomes ACTIVE and no job is removed. -/
structure State.NoNewJob (s t : State) : Prop where
  port : ∀ p, (s.port p).NoNewActive (t.port p)
  removed : ∀ g, t.removedJob = some g → ∃ h, s.removedJob = some h ∧ h.port = g.port ∧ h.cmd = g.cmd

theorem State.NoNewJob.trans {s t u : State} (h : s.NoNewJob t) (k : t.NoNewJob u) : s.NoNewJob u where
  port p := (h.port p).trans (k.port p)
  removed g found := by
    obtain ⟨g', found', port', cmd'⟩ := k.removed g found
    obtain ⟨g'', found'', port'', cmd''⟩ := h.removed g' found'
    exact ⟨g'', found'', port''.trans port', cmd''.trans cmd'⟩

/-- The operation in flight stays. -/
theorem State.NoNewJob.of_inFlight {s t : State} (flight : t.inFlight = s.inFlight)
    (port : ∀ p, (s.port p).NoNewActive (t.port p)) : s.NoNewJob t :=
  ⟨port, fun g found => ⟨g, (State.removedJob_congr flight) ▸ found, rfl, rfl⟩⟩

/-- No segment of a removed job is in flight. -/
theorem State.NoNewJob.of_none {s t : State} (none : t.removedJob = none)
    (port : ∀ p, (s.port p).NoNewActive (t.port p)) : s.NoNewJob t :=
  ⟨port, fun g found => by rw [none] at found; cases found⟩

theorem State.removedJob_of_no_segment {s : State} (h : ∀ g, s.inFlight ≠ some (.segment g)) : s.removedJob = none := by
  refine Option.eq_none_iff_forall_ne_some.mpr fun g found => ?_
  exact h g ((s.removedJob_eq_some_iff g).mp found).1

theorem State.removedJob_of_idle {s : State} (h : s.inFlight = none) : s.removedJob = none :=
  State.removedJob_of_no_segment (by simp [h])

theorem State.NoNewJob.of_landed {s t : State} (idle : t.inFlight = none)
    (port : ∀ p, (s.port p).NoNewActive (t.port p)) : s.NoNewJob t :=
  .of_none (State.removedJob_of_idle idle) port

theorem State.NoNewJob.refl (s : State) : s.NoNewJob s := .of_inFlight rfl fun _ => .of_queue rfl

/-- The table state, the hold, the open sets and one port unit change. -/
theorem State.noNewJob_updPort_with (s : State) (tableState : TableState) (held : Bool) (openSets : PerIndex PortSet)
    {p : Port} {f : PortUnit → PortUnit} (h : (s.port p).NoNewActive (f (s.port p))) :
    s.NoNewJob ({ s with tableState := tableState, held := held, openSets := openSets }.updPort p f) := by
  refine .of_inFlight rfl fun q => ?_
  show (s.port q).NoNewActive ((s.updPort p f).port q)
  by_cases hq : q = p
  · subst hq
    rwa [State.port_updPort_same]
  · rw [State.port_updPort_of_ne _ _ hq]
    exact .of_queue rfl

theorem State.noNewJob_updPort (s : State) {p : Port} {f : PortUnit → PortUnit}
    (h : (s.port p).NoNewActive (f (s.port p))) : s.NoNewJob (s.updPort p f) :=
  s.noNewJob_updPort_with s.tableState s.held s.openSets h

/-- A port unit changes beside its queue. -/
theorem State.noNewJob_updPort_of_queue (s : State) {p : Port} {f : PortUnit → PortUnit}
    (h : (f (s.port p)).queue = (s.port p).queue) : s.NoNewJob (s.updPort p f) :=
  s.noNewJob_updPort (.of_queue h)

theorem State.noNewJob_setProgress (s : State) (p : Port) (pr : Progress) :
    s.NoNewJob (s.updPort p fun u => u.setProgress pr) :=
  s.noNewJob_updPort (PortUnit.noNewActive_setProgress _ pr)

theorem State.noNewJob_answer_with (s : State) (tableState : TableState) (held : Bool) (openSets : PerIndex PortSet)
    (p : Port) (ws : Vector Word 8) :
    s.NoNewJob ({ s with tableState := tableState, held := held, openSets := openSets }.answer p ws) :=
  s.noNewJob_updPort_with _ _ _ (.of_queue rfl)

theorem State.noNewJob_answer (s : State) (p : Port) (ws : Vector Word 8) : s.NoNewJob (s.answer p ws) :=
  s.noNewJob_updPort_of_queue rfl

theorem State.NoNewJob.settle {s t : State} (h : s.NoNewJob t) : s.NoNewJob t.settle :=
  h.trans (.of_inFlight t.inFlight_settle fun p => .of_queue (t.queue_settle p))

theorem State.noNewJob_landed (s : State) : s.NoNewJob s.landed := .of_landed rfl fun _ => .of_queue rfl

theorem State.noNewJob_finish (s : State) (p : Port) (st : Status) : s.NoNewJob (s.finish p st) := by
  unfold State.finish
  split
  · exact .refl s
  · exact s.noNewJob_updPort (.of_tail rfl)

theorem State.ports_leaveTableState (s : State) (cmd : QueuedCommand) : (s.leaveTableState cmd).ports = s.ports := by
  unfold State.leaveTableState
  repeat' split
  all_goals rfl

theorem State.port_leaveTableState (s : State) (cmd : QueuedCommand) (p : Port) :
    (s.leaveTableState cmd).port p = s.port p :=
  congrArg (PerPort.get · p) (s.ports_leaveTableState cmd)

theorem State.noNewJob_leaveTableState (s : State) (cmd : QueuedCommand) : s.NoNewJob (s.leaveTableState cmd) :=
  .of_inFlight (s.sameCourse_leaveTableState cmd).inFlight fun p =>
    .of_queue (congrArg PortUnit.queue (s.port_leaveTableState cmd p))

theorem State.noNewJob_tableFault (s : State) (p : Port) (cmd : QueuedCommand) (removed : Bool) :
    s.NoNewJob (s.tableFault p cmd removed) := by
  unfold State.tableFault
  split
  · exact .of_inFlight rfl fun _ => .of_queue rfl
  · exact (s.noNewJob_leaveTableState cmd).trans (State.noNewJob_finish _ p _)

/-- The port has no ACTIVE command after the end of its entry (R60). -/
theorem State.activeCommand_finish {s : State} {p : Port} (behind : (s.port p).QueuedBehind) (st : Status) :
    ((s.finish p st).port p).activeCommand = none := by
  cases active : (s.port p).activeEntry with
  | none =>
    rw [State.finish_of_idle st active, PortUnit.activeCommand, active]
    rfl
  | some x =>
    rw [State.finish_of_active st active, State.port_setPort_same]
    exact PortUnit.activeCommand_of_queued behind

end Sys2Proof.Machine

namespace Sys2Proof.Machine

/-! ### The table state a job holds (R39, R41) -/

/-- The other commands hold no table state. -/
theorem TableState.heldBy_of_not_holds {c : QueuedCommand} (h : c.holdsTable = false) (t : TableState) (p : Port) :
    t.heldBy p c = true := by
  cases c with
  | commit | wipe _ _ _ | setKey _ _ _ | clearKey _ _ | setRecovery _ _ => cases h
  | _ => rfl

/-- A job holds its own port's COMMITTING or UPDATING. -/
theorem TableState.cases_of_heldBy {t : TableState} {p : Port} {c : QueuedCommand} (holds : c.holdsTable = true)
    (held : t.heldBy p c = true) : (∃ staged lease, t = .committing p staged lease) ∨ t = .updating p := by
  cases c with
  | commit =>
    cases t with
    | committing h staged lease =>
      obtain rfl : h = p := of_decide_eq_true held
      exact .inl ⟨staged, lease, rfl⟩
    | _ => cases held
  | wipe _ _ _ | setKey _ _ _ | clearKey _ _ | setRecovery _ _ => exact .inr (of_decide_eq_true held)
  | _ => cases holds

/-- No two ports hold the table state. -/
theorem TableState.port_unique_of_heldBy {t : TableState} {p q : Port} {c d : QueuedCommand}
    (holdsC : c.holdsTable = true) (holdsD : d.holdsTable = true) (heldC : t.heldBy p c = true)
    (heldD : t.heldBy q d = true) : p = q := by
  obtain ⟨_, _, rfl⟩ | rfl := TableState.cases_of_heldBy holdsC heldC
  all_goals
    obtain ⟨_, _, same⟩ | same := TableState.cases_of_heldBy holdsD heldD
    all_goals cases same
    rfl

/-! ### The law, and a state without a job -/

/-- The law, job by job: an ACTIVE one holds the table state with no removed one beside it, and a removed one whose
segment is in flight holds it too. -/
theorem State.jobLaw_iff (s : State) :
    s.jobLaw = true ↔
      (∀ p c, (s.port p).activeCommand = some c → c.holdsTable = true →
        s.tableState.heldBy p c = true ∧ s.removedJob = none) ∧
      ∀ g, s.removedJob = some g → s.tableState.heldBy g.port g.cmd = true := by
  have port : ∀ p, s.jobAt p = true ↔ ∀ c, (s.port p).activeCommand = some c → c.holdsTable = true →
      s.tableState.heldBy p c = true ∧ s.removedJob = none := by
    intro p
    unfold State.jobAt
    split
    · rename_i idle
      simp [idle]
    · rename_i c active
      cases holds : c.holdsTable with
      | true => simp [active, holds]
      | false => simp [active, holds, TableState.heldBy_of_not_holds holds]
  have ports : (∀ p, s.jobAt p = true) ↔ s.jobAt .a = true ∧ s.jobAt .b = true ∧ s.jobAt .c = true :=
    ⟨fun h => ⟨h .a, h .b, h .c⟩, fun ⟨ha, hb, hc⟩ p => by cases p <;> assumption⟩
  simp only [← port, ports, State.jobLaw, Bool.and_eq_true, Option.all_eq_true, and_assoc]

/-- No COMMIT or table job is ACTIVE, and no segment of a removed one is in flight. -/
structure State.NoJob (s : State) : Prop where
  active : ∀ p c, (s.port p).activeCommand = some c → c.holdsTable = false
  removed : s.removedJob = none

/-- Without a job any table state agrees. -/
theorem State.NoJob.jobLaw {s : State} (h : s.NoJob) : s.jobLaw = true := by
  refine s.jobLaw_iff.mpr ⟨fun p c active holds => ?_, fun g found => ?_⟩
  · simp [h.active p c active] at holds
  · simp [h.removed] at found

/-- In FREE and in CLAIMED there is no job. -/
theorem State.noJob_of_unheld {s : State} (law : s.jobLaw = true)
    (unheld : ∀ p c, c.holdsTable = true → s.tableState.heldBy p c = false) : s.NoJob := by
  obtain ⟨active, removed⟩ := s.jobLaw_iff.mp law
  refine ⟨fun p c found => Bool.eq_false_iff.mpr fun holds => ?_,
    Option.eq_none_iff_forall_ne_some.mpr fun g found => ?_⟩
  · simpa [unheld p c holds] using (active p c found holds).1
  · simpa [unheld g.port g.cmd ((s.removedJob_eq_some_iff g).mp found).2.2] using removed g found

theorem State.noJob_of_free {s : State} (law : s.jobLaw = true) (free : s.tableState = .free) : s.NoJob := by
  refine State.noJob_of_unheld law fun p c holds => Bool.eq_false_iff.mpr fun held => ?_
  obtain ⟨_, _, other⟩ | other := TableState.cases_of_heldBy holds held
  all_goals simp [free] at other

theorem State.noJob_of_claimed {s : State} (law : s.jobLaw = true) {h : Port} {staged : Table} {lease n : Nat}
    (claimed : s.tableState = .claimed h staged lease n) : s.NoJob := by
  refine State.noJob_of_unheld law fun p c holds => Bool.eq_false_iff.mpr fun held => ?_
  obtain ⟨_, _, other⟩ | other := TableState.cases_of_heldBy holds held
  all_goals simp [claimed] at other

/-! ### Steps without a new job -/

/-- No job appears where there was none. -/
theorem State.NoNewJob.noJob {s t : State} (c : s.NoNewJob t) (behind : ∀ p, (s.port p).QueuedBehind) (h : s.NoJob) :
    t.NoJob := by
  refine ⟨fun p cmd found => h.active p cmd ((c.port p (behind p)).2 cmd found),
    Option.eq_none_iff_forall_ne_some.mpr fun g found => ?_⟩
  obtain ⟨_, before, -⟩ := c.removed g found
  simp [h.removed] at before

/-- The jobs that remain hold a table state that stays. -/
theorem State.NoNewJob.jobLaw {s t : State} (c : s.NoNewJob t) (behind : ∀ p, (s.port p).QueuedBehind)
    (law : s.jobLaw = true) (same : t.tableState = s.tableState) : t.jobLaw = true := by
  obtain ⟨active, removed⟩ := s.jobLaw_iff.mp law
  refine t.jobLaw_iff.mpr ⟨fun p cmd found holds => ?_, fun g found => ?_⟩
  · obtain ⟨held, none⟩ := active p cmd ((c.port p (behind p)).2 cmd found) holds
    refine ⟨same ▸ held, Option.eq_none_iff_forall_ne_some.mpr fun g found => ?_⟩
    obtain ⟨_, before, -⟩ := c.removed g found
    simp [none] at before
  · obtain ⟨h, before, port, cmd⟩ := c.removed g found
    rw [same, ← port, ← cmd]
    exact removed h before

/-- The end of the ACTIVE job leaves none (R39). -/
theorem State.NoNewJob.noJob_of_ended {s t : State} (c : s.NoNewJob t) (behind : ∀ p, (s.port p).QueuedBehind)
    (law : s.jobLaw = true) {p : Port} {cmd : QueuedCommand} (active : (s.port p).activeCommand = some cmd)
    (holds : cmd.holdsTable = true) (ended : (t.port p).activeCommand = none) : t.NoJob := by
  obtain ⟨held, -⟩ := s.jobLaw_iff.mp law
  obtain ⟨here, none⟩ := held p cmd active holds
  refine ⟨fun q d found => Bool.eq_false_iff.mpr fun job => ?_, Option.eq_none_iff_forall_ne_some.mpr fun g found => ?_⟩
  · have there := (held q d ((c.port q (behind q)).2 d found) job).1
    obtain rfl := TableState.port_unique_of_heldBy holds job here there
    simp [ended] at found
  · obtain ⟨_, before, -⟩ := c.removed g found
    simp [none] at before

/-- The end of a removed job's segment leaves none (R57, R58). -/
theorem State.NoNewJob.noJob_of_landed {s t : State} (c : s.NoNewJob t) (behind : ∀ p, (s.port p).QueuedBehind)
    (law : s.jobLaw = true) {g : Segment} (removed : s.removedJob = some g) (landed : t.removedJob = none) :
    t.NoJob := by
  refine ⟨fun p cmd found => Bool.eq_false_iff.mpr fun job => ?_, landed⟩
  have none := ((s.jobLaw_iff.mp law).1 p cmd ((c.port p (behind p)).2 cmd found) job).2
  simp [removed] at none

/-- An ACTIVE command ends; the table state changes only with a COMMIT or a table job (R41). -/
theorem State.NoNewJob.jobLaw_of_ended {s t : State} (c : s.NoNewJob t) (behind : ∀ p, (s.port p).QueuedBehind)
    (law : s.jobLaw = true) {p : Port} {cmd : QueuedCommand} (active : (s.port p).activeCommand = some cmd)
    (ended : (t.port p).activeCommand = none) (kept : cmd.holdsTable = false → t.tableState = s.tableState) :
    t.jobLaw = true := by
  cases holds : cmd.holdsTable with
  | true => exact (c.noJob_of_ended behind law active holds ended).jobLaw
  | false => exact c.jobLaw behind law (kept holds)

/-- Settling changes no job and no table state. -/
theorem State.jobLaw_settle (s : State) : s.settle.jobLaw = s.jobLaw := by
  have command : ∀ p, (s.settle.port p).activeCommand = (s.port p).activeCommand := fun p =>
    PortUnit.activeCommand_congr (s.queue_settle p)
  have removed : s.settle.removedJob = s.removedJob := State.removedJob_congr s.inFlight_settle
  rw [Bool.eq_iff_iff, State.jobLaw_iff, State.jobLaw_iff]
  simp only [command, removed, State.tableState_settle]

/-! ### The owner of the segment in flight (R71, R73) -/

/-- The segment in flight does its command's work, and its command is ACTIVE unless it was removed. -/
theorem State.segment_of_ownerLaw {s : State} (law : s.ownerLaw = true) {g : Segment}
    (flight : s.inFlight = some (.segment g)) :
    g.cmd.does g.work = true ∧ (g.removed = false → (s.port g.port).activeCommand = some g.cmd) := by
  simp only [State.ownerLaw, State.segmentLaw, flight, Bool.and_eq_true, Bool.or_eq_true, decide_eq_true_eq] at law
  obtain ⟨⟨⟨⟨does, owner⟩, -⟩, -⟩, -⟩ := law
  exact ⟨does, fun kept => owner.resolve_left (by simp [kept])⟩

/-- Only a COMMIT and the table jobs have table segments (R68). -/
theorem QueuedCommand.holdsTable_of_does {c : QueuedCommand} {w : Work} (does : c.does w = true)
    (table : w.ofTable = true) : c.holdsTable = true := by
  cases c with
  | commit | wipe _ _ _ | setKey _ _ _ | clearKey _ _ | setRecovery _ _ => rfl
  | openKey _ _ _ => cases does
  | _ =>
    cases w with
    | tableBlank _ | tableHeader _ | tableRecords _ => cases does
    | _ => cases table

/-- The job whose segment is in flight holds the table state, removed or not (R57, R58). -/
theorem State.heldBy_of_segment {s : State} (law : s.jobLaw = true) (owner : s.ownerLaw = true) {g : Segment}
    (flight : s.inFlight = some (.segment g)) (holds : g.cmd.holdsTable = true) :
    s.tableState.heldBy g.port g.cmd = true := by
  obtain ⟨active, removed⟩ := s.jobLaw_iff.mp law
  cases left : g.removed with
  | true => exact removed g ((s.removedJob_eq_some_iff g).mpr ⟨flight, left, holds⟩)
  | false => exact (active g.port g.cmd ((State.segment_of_ownerLaw owner flight).2 left) holds).1

end Sys2Proof.Machine

namespace Sys2Proof.Machine

/-! ### Accesses of the window and the jobs -/

theorem State.noNewJob_takeHold (s : State) (p : Port) : s.NoNewJob (s.takeHold p) := by
  unfold State.takeHold
  repeat' split
  all_goals exact s.noNewJob_answer_with _ _ _ p _

theorem State.noNewJob_close (s : State) (p : Port) : s.NoNewJob (s.close p) := by
  unfold State.close
  repeat' split
  all_goals exact s.noNewJob_answer_with _ _ _ p _

theorem State.noNewJob_watch (s : State) (p : Port) : s.NoNewJob (s.watch p) := by
  unfold State.watch
  repeat' split
  all_goals exact s.noNewJob_updPort_of_queue rfl

theorem State.noNewJob_info (s : State) (p : Port) : s.NoNewJob (s.info p) := by
  unfold State.info
  dsimp only
  repeat' split
  all_goals exact s.noNewJob_answer p _

theorem State.noNewJob_setup (s : State) (p : Port) : s.NoNewJob (s.setup p) := by
  have taken : ∀ (f : PortUnit → PortUnit) (old : Nat), (f (s.port p)).queue = (s.port p).queue →
      s.NoNewJob ((s.updPort p f).intervalChanged old) := by
    intro f old queue
    refine (s.noNewJob_updPort_of_queue queue).trans ?_
    unfold State.intervalChanged
    split
    · exact .refl _
    · exact .of_inFlight rfl fun _ => .of_queue rfl
  unfold State.setup
  dsimp only
  repeat' split
  · exact (taken _ _ rfl).settle
  all_goals exact s.noNewJob_answer p _

theorem State.noNewJob_refuseData (s : State) (p : Port) : s.NoNewJob (s.refuseData p) :=
  s.noNewJob_updPort_of_queue rfl

theorem State.noNewJob_output (s : State) (p : Port) (w : Word) : s.NoNewJob (s.output p w) :=
  s.noNewJob_updPort_of_queue rfl

theorem State.noNewJob_emptyRead (s : State) (p : Port) : s.NoNewJob (s.emptyRead p) :=
  (s.noNewJob_refuseData p).trans (State.noNewJob_output _ p 0)

theorem State.noNewJob_dataWrite (s : State) (p : Port) (w : Word) : s.NoNewJob (s.dataWrite p w) := by
  have refused := s.noNewJob_refuseData p
  unfold State.dataWrite
  split
  · exact refused
  split
  · split
    · split
      · exact (s.noNewJob_updPort_of_queue (PortUnit.queue_fill _ w)).settle
      split
      · exact (s.noNewJob_updPort_of_queue rfl).settle
      · exact refused
    · exact refused
  all_goals exact refused

theorem State.noNewJob_completeRead (s : State) (p : Port) : s.NoNewJob (s.completeRead p) := by
  unfold State.completeRead
  split
  · exact .refl s
  split
  · split
    · exact s.noNewJob_finish p _
    · exact .refl s
  · exact .refl s

theorem State.noNewJob_dataRead (s : State) (p : Port) : s.NoNewJob (s.dataRead p) := by
  have empty := s.noNewJob_emptyRead p
  unfold State.dataRead
  split
  · exact empty
  split
  · split
    · exact empty
    split
    · exact empty
    split
    · exact (((s.noNewJob_output p _).trans (State.noNewJob_updPort _ (PortUnit.noNewActive_drain _ _ _ _))).trans
        (State.noNewJob_completeRead _ p)).settle
    · exact empty
  · exact empty

theorem State.noNewJob_paramWrite (s : State) (p : Port) (loc : Nat) (w : Word) :
    s.NoNewJob (s.paramWrite p loc w) := by
  unfold State.paramWrite
  split
  · exact s.noNewJob_updPort_of_queue rfl
  · exact .refl s

/-- An answer with a new table state where no job holds the old one. -/
theorem State.jobLaw_answer_with {s : State} (behind : ∀ p, (s.port p).QueuedBehind) (none : s.NoJob)
    (table : TableState) (p : Port) (ws : Vector Word 8) :
    ({ s with tableState := table }.answer p ws).jobLaw = true :=
  ((s.noNewJob_answer_with table s.held s.openSets p ws).noJob behind none).jobLaw

theorem State.jobLaw_answer {s : State} (behind : ∀ p, (s.port p).QueuedBehind) (law : s.jobLaw = true) (p : Port)
    (ws : Vector Word 8) : (s.answer p ws).jobLaw = true :=
  (s.noNewJob_answer p ws).jobLaw behind law rfl

/-- A claim is taken in FREE and renewed in CLAIMED, where there is no job. -/
theorem State.jobLaw_claim {s : State} (behind : ∀ p, (s.port p).QueuedBehind) (law : s.jobLaw = true) (p : Port) :
    (s.claim p).jobLaw = true := by
  have answered := State.jobLaw_answer behind law p
  unfold State.claim
  dsimp only
  split
  · exact answered _
  split
  · exact answered _
  split
  · exact answered _
  split
  · rename_i free
    exact State.jobLaw_answer_with behind (State.noJob_of_free law free) _ p _
  · rename_i claimed
    split
    · exact State.jobLaw_answer_with behind (State.noJob_of_claimed law claimed) _ p _
    · exact answered _
  · exact answered _
  · exact answered _

theorem State.jobLaw_discard {s : State} (behind : ∀ p, (s.port p).QueuedBehind) (law : s.jobLaw = true) (p : Port) :
    (s.discard p).jobLaw = true := by
  have answered := State.jobLaw_answer behind law p
  unfold State.discard
  split
  · exact answered _
  split
  · rename_i claimed
    split
    · exact State.jobLaw_answer_with behind (State.noJob_of_claimed law claimed) _ p _
    · exact answered _
  · split
    all_goals exact answered _
  · exact answered _
  · exact answered _

/-- An edit changes the staged table in CLAIMED, where there is no job. -/
theorem State.jobLaw_edit {s : State} (behind : ∀ p, (s.port p).QueuedBehind) (law : s.jobLaw = true) (p : Port)
    (f : Table → Nat ⊕ Table) : (s.edit p f).jobLaw = true := by
  have answered := State.jobLaw_answer behind law p
  unfold State.edit
  split
  · exact answered _
  split
  · rename_i claimed
    split
    · split
      · exact answered _
      · exact State.jobLaw_answer_with behind (State.noJob_of_claimed law claimed) _ p _
    · exact answered _
  · split
    all_goals exact answered _
  · exact answered _
  · exact answered _

/-! ### The end of a job -/

theorem State.leaveTableState_of_not_holds {cmd : QueuedCommand} (h : cmd.holdsTable = false) (s : State) :
    s.leaveTableState cmd = s := by
  cases cmd with
  | commit | wipe _ _ _ | setKey _ _ _ | clearKey _ _ | setRecovery _ _ => cases h
  | _ => rfl

/-- An ACTIVE command ends and then leaves its table state (R41, R55, R58). -/
theorem State.jobLaw_finish_leave {s t : State} (c : s.NoNewJob t) (behind : ∀ p, (s.port p).QueuedBehind)
    (law : s.jobLaw = true) {p : Port} {cmd : QueuedCommand} (active : (s.port p).activeCommand = some cmd)
    (same : t.tableState = s.tableState) (st : Status) :
    ((t.finish p st).leaveTableState cmd).jobLaw = true := by
  refine ((c.trans (t.noNewJob_finish p st)).trans (State.noNewJob_leaveTableState _ cmd)).jobLaw_of_ended behind law
    active ?_ fun other => ?_
  · rw [State.port_leaveTableState]
    exact State.activeCommand_finish ((c.port p (behind p)).1) st
  · rw [State.leaveTableState_of_not_holds other, State.tableState_finish, same]

/-- The owner of a table fault leaves its table state and ends (R28, R54). -/
theorem State.jobLaw_tableFault {s t : State} (c : s.NoNewJob t) (behind : ∀ p, (s.port p).QueuedBehind)
    (law : s.jobLaw = true) {p : Port} {cmd : QueuedCommand} (active : (s.port p).activeCommand = some cmd)
    (same : t.tableState = s.tableState) : (t.tableFault p cmd false).jobLaw = true := by
  have left := c.trans (t.noNewJob_leaveTableState cmd)
  refine (c.trans (t.noNewJob_tableFault p cmd false)).jobLaw_of_ended behind law active ?_ fun other => ?_
  · exact State.activeCommand_finish ((left.port p (behind p)).1) .commitFault
  · show ((t.leaveTableState cmd).finish p .commitFault).tableState = _
    rw [State.tableState_finish, State.leaveTableState_of_not_holds other, same]

/-- An entry that has started is the ACTIVE one (R60). -/
theorem PortUnit.activeEntry_of_found {u : PortUnit} (behind : u.QueuedBehind) {e : Entry} {a : Active}
    (mem : e ∈ u.queue) (active : e.active = some a) : u.activeEntry = some (e, a) := by
  cases queue : u.queue with
  | nil => simp [queue] at mem
  | cons x rest =>
    obtain rfl | later := List.mem_cons.mp (queue ▸ mem)
    · rw [PortUnit.activeEntry_cons u e rest queue, active]
      rfl
    · simp [behind e (by rwa [queue])] at active

theorem State.jobLaw_abort {s : State} (behind : ∀ p, (s.port p).QueuedBehind) (law : s.jobLaw = true) (p : Port) :
    (s.abort p).jobLaw = true := by
  unfold State.abort
  split
  · exact State.jobLaw_answer behind law p _
  rename_i tag _
  split
  · exact State.jobLaw_answer behind law p _
  rename_i e found
  split
  · exact ((s.noNewJob_updPort (PortUnit.noNewActive_eraseP _ tag)).trans (State.noNewJob_answer _ p _)).jobLaw
      behind law rfl
  · rename_i a started
    have active := PortUnit.activeEntry_of_found (behind p) (List.mem_of_find?_eq_some found) started
    rw [State.jobLaw_settle]
    unfold State.abortActive
    split
    · have pending : s.NoNewJob (s.updPort p fun u => u.setActive { a with abortPending := true }) :=
        s.noNewJob_updPort (PortUnit.noNewActive_setActive _ active _)
      exact (pending.trans (State.noNewJob_answer _ p _)).jobLaw behind law rfl
    · have command := PortUnit.activeCommand_of_active active
      have ended := State.jobLaw_finish_leave (.refl s) behind law command rfl .aborted
      have none := (s.noNewJob_finish p .aborted).trans (State.noNewJob_leaveTableState _ e.cmd)
      exact State.jobLaw_answer (fun q => (none.port q (behind q)).1) ended p _

/-- Every access of a window keeps the table state with the job that holds it. -/
theorem State.WindowEffect.jobLaw {s t : State} {p : Port} (behind : ∀ p, (s.port p).QueuedBehind)
    (law : s.jobLaw = true) (e : s.WindowEffect p t) : t.jobLaw = true := by
  cases e with
  | nothing => exact law
  | issueQueued tag _ =>
    exact (s.noNewJob_updPort (PortUnit.noNewActive_issueQueued _ tag _)).jobLaw behind law rfl
  | claim => exact State.jobLaw_claim behind law p
  | discard => exact State.jobLaw_discard behind law p
  | define => exact State.jobLaw_edit behind law p _
  | delete => exact State.jobLaw_edit behind law p _
  | resize => exact State.jobLaw_edit behind law p _
  | modify => exact State.jobLaw_edit behind law p _
  | close => exact (s.noNewJob_close p).jobLaw behind law (s.tableState_close p)
  | hold => exact (s.noNewJob_takeHold p).jobLaw behind law (s.tableState_takeHold p)
  | abort => exact State.jobLaw_abort behind law p
  | pop => exact (s.noNewJob_updPort_of_queue (PortUnit.queue_pop _)).jobLaw behind law rfl
  | watch => exact (s.noNewJob_watch p).jobLaw behind law (s.tableState_watch p)
  | info => exact (s.noNewJob_info p).jobLaw behind law (s.tableState_info p)
  | setup => exact (s.noNewJob_setup p).jobLaw behind law (s.tableState_setup p)
  | dataWrite w => exact (s.noNewJob_dataWrite p w).jobLaw behind law (s.tableState_dataWrite p w)
  | dataRead => exact (s.noNewJob_dataRead p).jobLaw behind law (s.tableState_dataRead p)
  | paramWrite loc w => exact (s.noNewJob_paramWrite p loc w).jobLaw behind law (s.tableState_paramWrite p loc w)
  | _ => exact (s.noNewJob_updPort_of_queue rfl).jobLaw behind law rfl

end Sys2Proof.Machine

namespace Sys2Proof.Machine

/-! ### The start of a command (R41, R52, R64) -/

theorem orRuns_eq_runs {c : Option Status} {pr pr' : Progress} (h : orRuns c pr = .runs pr') : c = none := by
  cases c with
  | none => rfl
  | some st => cases h

theorem firstFailing_eq_none {c d : Option Status} (h : firstFailing c d = none) : c = none ∧ d = none := by
  cases c with
  | none => exact ⟨rfl, h⟩
  | some st => cases h

theorem State.free_of_jobTest {s : State} (h : s.jobTest = none) : s.tableState = .free := by
  unfold State.jobTest at h
  split at h
  · assumption
  all_goals cases h

/-- A key job and a WIPE start in FREE only (R41). -/
theorem State.free_of_startOutcome_runs {s : State} {p : Port} {cmd : QueuedCommand} {pr : Progress}
    (runs : s.startOutcome p cmd = .runs pr) (holds : cmd.holdsTable = true) (job : cmd ≠ .commit) :
    s.tableState = .free := by
  cases cmd with
  | commit => exact absurd rfl job
  | wipe i which key =>
    replace runs : s.startWipe p i which key = .runs pr := runs
    unfold State.startWipe at runs
    split at runs
    · cases runs
    · obtain ⟨-, rest⟩ := firstFailing_eq_none (orRuns_eq_runs runs)
      obtain ⟨-, rest⟩ := firstFailing_eq_none rest
      exact State.free_of_jobTest (firstFailing_eq_none rest).1
  | setKey i key mode =>
    replace runs : s.startSetKey p i = .runs pr := runs
    unfold State.startSetKey at runs
    split at runs
    · cases runs
    · obtain ⟨-, rest⟩ := firstFailing_eq_none (orRuns_eq_runs runs)
      obtain ⟨-, rest⟩ := firstFailing_eq_none rest
      exact State.free_of_jobTest (firstFailing_eq_none rest).2
  | clearKey i key =>
    replace runs : s.startClearKey p i key = .runs pr := runs
    unfold State.startClearKey at runs
    split at runs
    · cases runs
    · obtain ⟨-, rest⟩ := firstFailing_eq_none (orRuns_eq_runs runs)
      obtain ⟨-, rest⟩ := firstFailing_eq_none rest
      exact State.free_of_jobTest (firstFailing_eq_none rest).1
  | setRecovery new old =>
    replace runs : s.startSetRecovery p old = .runs pr := runs
    unfold State.startSetRecovery at runs
    obtain ⟨-, rest⟩ := firstFailing_eq_none (orRuns_eq_runs runs)
    exact State.free_of_jobTest (firstFailing_eq_none rest).1
  | _ => cases holds

/-- A COMMIT starts at the holder in CLAIMED only (R52). -/
theorem State.claimed_of_startCommit_runs {s : State} {p : Port} {pr : Progress}
    (runs : s.startCommit p = .runs pr) :
    pr = .job true ∧ ∃ staged lease n, s.tableState = .claimed p staged lease n := by
  unfold State.startCommit at runs
  split at runs
  · rename_i h staged lease n claimed
    split at runs
    · rename_i here
      cases runs
      exact ⟨rfl, staged, lease, n, here ▸ claimed⟩
    · cases runs
  all_goals cases runs

/-- A COMMIT or table job that starts finds no other job, and takes the table state. -/
theorem State.heldBy_of_startOutcome_runs {s : State} (law : s.jobLaw = true) {p : Port} {cmd : QueuedCommand}
    {pr : Progress} (runs : s.startOutcome p cmd = .runs pr) (holds : cmd.holdsTable = true) :
    s.NoJob ∧ (s.enterTableState p cmd).tableState.heldBy p cmd = true := by
  cases cmd with
  | commit =>
    obtain ⟨-, staged, lease, n, claimed⟩ := State.claimed_of_startCommit_runs runs
    rw [State.enterTableState_commit_of_claimed p claimed]
    exact ⟨State.noJob_of_claimed law claimed, decide_eq_true rfl⟩
  | wipe _ _ _ | setKey _ _ _ | clearKey _ _ | setRecovery _ _ =>
    exact ⟨State.noJob_of_free law (State.free_of_startOutcome_runs runs holds (by simp)), decide_eq_true rfl⟩
  | _ => cases holds

theorem State.enterTableState_of_not_holds {cmd : QueuedCommand} (h : cmd.holdsTable = false) (s : State) (p : Port) :
    s.enterTableState p cmd = s := by
  cases cmd with
  | commit | wipe _ _ _ | setKey _ _ _ | clearKey _ _ | setRecovery _ _ => cases h
  | _ => rfl

theorem State.ports_enterTableState (s : State) (p : Port) (cmd : QueuedCommand) :
    (s.enterTableState p cmd).ports = s.ports := by
  unfold State.enterTableState
  repeat' split
  all_goals rfl

theorem State.port_enterTableState (s : State) (p q : Port) (cmd : QueuedCommand) :
    (s.enterTableState p cmd).port q = s.port q :=
  congrArg (PerPort.get · q) (s.ports_enterTableState p cmd)

/-- The table state that a command enters is told by the table state it finds. -/
theorem State.tableState_enterTableState_congr {s t : State} (h : t.tableState = s.tableState) (p : Port)
    (cmd : QueuedCommand) : (t.enterTableState p cmd).tableState = (s.enterTableState p cmd).tableState := by
  cases cmd with
  | commit => cases table : s.tableState <;> simp only [State.enterTableState, table, h.trans table]
  | wipe _ _ _ | setKey _ _ _ | clearKey _ _ | setRecovery _ _ => rfl
  | _ => exact h

/-- The command that becomes ACTIVE takes its table state, and the others keep theirs. -/
theorem State.jobLaw_becomeActive {s : State} (law : s.jobLaw = true) {p : Port} {e : Entry} {pr : Progress}
    (runs : s.startOutcome p e.cmd = .runs pr) : (s.becomeActive p e pr).jobLaw = true := by
  have other : ∀ q, q ≠ p → (s.becomeActive p e pr).port q = s.port q := fun q ne => by
    rw [State.becomeActive, State.port_enterTableState, State.port_updPort_of_ne _ _ ne]
  have started : ((s.becomeActive p e pr).port p).activeCommand = some e.cmd := by
    rw [State.becomeActive, State.port_enterTableState, State.port_updPort_same]
    rfl
  have removed : (s.becomeActive p e pr).removedJob = s.removedJob :=
    State.removedJob_congr (State.sameCourse_enterTableState _ p e.cmd).inFlight
  have table : (s.becomeActive p e pr).tableState = (s.enterTableState p e.cmd).tableState :=
    State.tableState_enterTableState_congr (State.tableState_updPort _ _ _) p e.cmd
  rw [State.jobLaw_iff, removed, table]
  cases holds : e.cmd.holdsTable with
  | true =>
    obtain ⟨none, held⟩ := State.heldBy_of_startOutcome_runs law runs holds
    refine ⟨fun q c active job => ?_, fun g found => by simp [none.removed] at found⟩
    by_cases here : q = p
    · subst here
      cases started.symm.trans active
      exact ⟨held, none.removed⟩
    · rw [other q here] at active
      simp [none.active q c active] at job
  | false =>
    obtain ⟨active, kept⟩ := s.jobLaw_iff.mp law
    rw [State.enterTableState_of_not_holds holds]
    refine ⟨fun q c found job => ?_, kept⟩
    by_cases here : q = p
    · subst here
      cases started.symm.trans found
      simp [holds] at job
    · rw [other q here] at found
      exact active q c found job

theorem State.noNewJob_openIfMatched (s : State) (p : Port) (cmd : QueuedCommand) (st : Status) :
    s.NoNewJob (s.openIfMatched p cmd st) := by
  unfold State.openIfMatched
  repeat' split
  all_goals exact .of_inFlight rfl fun _ => .of_queue rfl

theorem State.noNewJob_endAtStart (s : State) (p : Port) (e : Entry) (st : Status) :
    s.NoNewJob (s.endAtStart p e st) := by
  have ended : s.NoNewJob (s.updPort p fun u =>
      { ((u.reserve.post (s.startRecord e st)).spend st) with queue := u.queue.tail }) :=
    s.noNewJob_updPort (.of_tail rfl)
  exact ended.trans (State.noNewJob_openIfMatched _ p _ _)

theorem State.jobLaw_commandStart {s : State} (behind : ∀ p, (s.port p).QueuedBehind) (law : s.jobLaw = true)
    (p : Port) : (s.commandStart p).jobLaw = true := by
  unfold State.commandStart
  split
  · split
    · exact law
    · rename_i e _ _
      split
      · rename_i st _
        exact (s.noNewJob_endAtStart p e st).settle.jobLaw behind law (by simp [State.endAtStart])
      · rename_i runs
        rw [State.jobLaw_settle]
        exact State.jobLaw_becomeActive law runs
  · exact law

/-! ### Grants and the ends of the array's operations -/

/-- A grant puts a segment in flight that is not removed, or refuses the table segment of its owner (R27). -/
theorem State.jobLaw_grant {s : State} (behind : ∀ p, (s.port p).QueuedBehind) (law : s.jobLaw = true) {p : Port}
    {e : Entry} {a : Active} (active : (s.port p).activeEntry = some (e, a)) (w : Work) :
    (s.grant p e a w).jobLaw = true := by
  unfold State.grant
  split
  · rw [State.jobLaw_settle]
    exact State.jobLaw_tableFault (s := s) (t := { s with lastGranted := p, standbyTimer := none })
      (.of_inFlight rfl fun _ => .of_queue rfl) behind law (PortUnit.activeCommand_of_active active) rfl
  · have flies : s.NoNewJob
        { s with
          lastGranted := p,
          inFlight := some (.segment { port := p, cmd := e.cmd, removed := false, work := w }) } :=
      .of_none (by simp [State.removedJob]) fun _ => .of_queue rfl
    exact ((flies.trans (State.noNewJob_updPort _ (PortUnit.noNewActive_mount _ _))).settle).jobLaw behind law
      (State.tableState_settle _)

theorem State.noNewJob_readEnd (s : State) (g : Segment) (count : Nat) (report : ReadReport) :
    s.NoNewJob (s.readEnd g count report) := by
  have landed := s.noNewJob_landed
  have reported := fun r => landed.trans
    (s.landed.noNewJob_updPort (p := g.port) (f := fun u => u.readReport r count report)
      (PortUnit.noNewActive_readReport _ _ _ _))
  unfold State.readEnd
  split
  · exact landed.trans (State.noNewJob_updPort_of_queue _ rfl)
  split
  · exact landed
  split
  · dsimp only
    split
    · exact (reported _).trans (State.noNewJob_finish _ _ _)
    · exact (reported _).trans (State.noNewJob_completeRead _ _)
  · exact landed

theorem State.noNewJob_checkEnd (s : State) (g : Segment) (count : Nat) (report : ReadReport) :
    s.NoNewJob (s.checkEnd g count report) := by
  have landed := s.noNewJob_landed
  have counted := fun pr => landed.trans (s.landed.noNewJob_setProgress g.port pr)
  unfold State.checkEnd
  split
  · exact landed
  split
  · exact landed
  split
  · dsimp only
    split
    · exact (counted _).trans (State.noNewJob_finish _ _ _)
    split
    · exact (counted _).trans (State.noNewJob_finish _ _ _)
    · exact counted _
  · exact landed

/-- A rise of a change count changes nothing of a port unit but its notice set. -/
theorem State.queue_riseCount (s : State) (i : Index) (p q : Port) :
    ((s.riseCount i p).port q).queue = (s.port q).queue := by
  rw [State.port_riseCount]
  split <;> rfl

theorem State.noNewJob_programmed (s : State) (i : Index) (p : Port) (n : Nat) (data : List Byte) (ok : Bool) :
    s.NoNewJob (s.programmed i p n data ok) := by
  refine .of_landed (s.inFlight_programmed i p n data ok) fun q => .of_queue ?_
  unfold State.programmed
  dsimp only
  split
  · rfl
  · rw [State.queue_riseCount]
    rfl

theorem State.noNewJob_blanked (s : State) (i : Index) (p : Port) (b : Nat) : s.NoNewJob (s.blanked i p b) :=
  .of_landed rfl fun q => .of_queue (State.queue_riseCount _ i p q)

theorem State.noNewJob_writeReport (s : State) (p : Port) (count : Nat) (w : WriteProgress) (abortPending : Bool)
    (report : ProgramReport) : s.NoNewJob (s.writeReport p count w abortPending report) := by
  cases report with
  | written =>
    have one : s.NoNewJob (s.updPort p fun u => u.programmedOne w) := by
      refine s.noNewJob_updPort (PortUnit.noNewActive_setProgress_of_queue ?_ _)
      rfl
    unfold State.writeReport
    dsimp only
    split
    · exact one.trans (State.noNewJob_finish _ p _)
    split
    · exact one.trans (State.noNewJob_finish _ p _)
    · exact one
  | _ =>
    exact (s.noNewJob_setProgress p _).trans (State.noNewJob_finish _ p _)

theorem State.noNewJob_writeEnd (s : State) (g : Segment) (i : Index) (count n : Nat) (data : List Byte) (ok : Bool) :
    s.NoNewJob (s.writeEnd g i count n data ok) := by
  have programmed := s.noNewJob_programmed i g.port n data ok
  unfold State.writeEnd
  dsimp only
  split
  · exact programmed.trans (State.noNewJob_updPort_of_queue _ rfl)
  split
  · exact programmed
  split
  · exact programmed.trans (State.noNewJob_writeReport _ _ _ _ _ _)
  · exact programmed

theorem State.noNewJob_blankEnd (s : State) (g : Segment) (i : Index) (count b : Nat) :
    s.NoNewJob (s.blankEnd g i count b) := by
  have blanked := s.noNewJob_blanked i g.port b
  have counted := fun pr => blanked.trans ((s.blanked i g.port b).noNewJob_setProgress g.port pr)
  unfold State.blankEnd
  dsimp only
  split
  · exact blanked
  split
  · exact blanked
  split
  · split
    · exact (counted _).trans (State.noNewJob_finish _ _ _)
    split
    · exact (counted _).trans (State.noNewJob_finish _ _ _)
    · exact counted _
  · exact blanked

/-- A WIPE that ends with its block leaves the table state FREE (R58, R136). -/
theorem State.jobLaw_wipeBlockEnd {s : State} (behind : ∀ p, (s.port p).QueuedBehind) (owner : s.ownerLaw = true)
    (law : s.jobLaw = true) {g : Segment} {i : Index} {which : Which} {key : Key} {b : Nat}
    (flight : s.inFlight = some (.segment g)) (cmd : g.cmd = .wipe i which key) :
    (s.wipeBlockEnd g i b).jobLaw = true := by
  have blanked := s.noNewJob_blanked i g.port b
  have kept := blanked.jobLaw behind law rfl
  have holds : g.cmd.holdsTable = true := by rw [cmd]; rfl
  unfold State.wipeBlockEnd
  dsimp only
  split
  · rename_i removed
    have job := (s.removedJob_eq_some_iff g).mpr ⟨flight, removed, holds⟩
    have freed : (s.blanked i g.port b).NoNewJob { s.blanked i g.port b with tableState := .free } :=
      .of_inFlight rfl fun _ => .of_queue rfl
    exact ((blanked.trans freed).noJob_of_landed behind law job rfl).jobLaw
  · rename_i left
    have active := (State.segment_of_ownerLaw owner flight).2 (by simpa using left)
    split
    · exact kept
    split
    · have counted := fun pr => blanked.trans ((s.blanked i g.port b).noNewJob_setProgress g.port pr)
      split
      · exact State.jobLaw_finish_leave (counted _) behind law active rfl .aborted
      · exact (counted _).jobLaw behind law rfl
    · exact kept

/-- A table segment goes on with its next operation (R26). -/
theorem State.noNewJob_goOn {s : State} {g : Segment} (flight : s.inFlight = some (.segment g)) (w : Work)
    (array : Memory) : s.NoNewJob (s.goOn g w array) := by
  refine ⟨fun _ => .of_queue rfl, fun h found => ?_⟩
  obtain ⟨same, removed, holds⟩ := (State.removedJob_eq_some_iff _ h).mp found
  cases same
  exact ⟨g, (s.removedJob_eq_some_iff g).mpr ⟨flight, removed, holds⟩, rfl, rfl⟩

/-- A table fault at the end of a table segment: the job leaves its table state, or the state becomes FREE when it was
removed (R28, R54, R57, R58). -/
theorem State.jobLaw_fault {s : State} (behind : ∀ p, (s.port p).QueuedBehind) (owner : s.ownerLaw = true)
    (law : s.jobLaw = true) {g : Segment} (flight : s.inFlight = some (.segment g)) (table : g.work.ofTable = true)
    (array : Memory) : ({ s.landed with array := array }.tableFault g.port g.cmd g.removed).jobLaw = true := by
  obtain ⟨does, active⟩ := State.segment_of_ownerLaw owner flight
  have landed : s.NoNewJob { s.landed with array := array } := .of_landed rfl fun _ => .of_queue rfl
  cases removed : g.removed with
  | true =>
    have job := (s.removedJob_eq_some_iff g).mpr ⟨flight, removed, QueuedCommand.holdsTable_of_does does table⟩
    exact ((landed.trans (State.noNewJob_tableFault _ g.port g.cmd true)).noJob_of_landed behind law job rfl).jobLaw
  | false => exact State.jobLaw_tableFault landed behind law (active removed) rfl

theorem State.jobLaw_headerEnd {s : State} (behind : ∀ p, (s.port p).QueuedBehind) (owner : s.ownerLaw = true)
    (law : s.jobLaw = true) {g : Segment} {new : Table} (flight : s.inFlight = some (.segment g))
    (work : g.work = .tableHeader new) (ok : Bool) : (s.headerEnd g new ok).jobLaw = true := by
  unfold State.headerEnd
  dsimp only
  split
  · exact (State.noNewJob_goOn flight _ _).jobLaw behind law rfl
  · rw [State.jobLaw_settle]
    exact State.jobLaw_fault behind owner law flight (by rw [work]; rfl) _

theorem State.noNewJob_endChanged (s : State) (g : Segment) (new : Table) : s.NoNewJob (s.endChanged g new) := by
  have one : ∀ (t : State) (q : Port), t.NoNewJob (t.endIfChanged g new q) := by
    intro t q
    unfold State.endIfChanged
    split
    · exact t.noNewJob_finish q _
    · exact .refl t
  exact ((one s .a).trans (one _ .b)).trans (one _ .c)

theorem State.noNewJob_makeLive (s : State) (g : Segment) (new : Table) : s.NoNewJob (s.makeLive g new) :=
  .of_inFlight rfl fun q => .of_queue (s.queue_makeLive g new q)

theorem State.noNewJob_switchover (s : State) (g : Segment) (new : Table) : s.NoNewJob (s.switchover g new) := by
  have made := (s.noNewJob_endChanged g new).trans (State.noNewJob_makeLive _ g new)
  unfold State.switchover
  dsimp only
  split
  · exact made
  · exact made.trans (State.noNewJob_finish _ _ _)

/-- After a switchover there is no job: its owner has ended, or was removed (R54, R57, R58). -/
theorem State.jobLaw_switchover {s : State} (behind : ∀ p, (s.port p).QueuedBehind) (owner : s.ownerLaw = true)
    (law : s.jobLaw = true) {g : Segment} (flight : s.inFlight = some (.segment g)) (table : g.work.ofTable = true)
    (array : Memory) (new : Table) : ({ s.landed with array := array }.switchover g new).jobLaw = true := by
  obtain ⟨does, active⟩ := State.segment_of_ownerLaw owner flight
  have holds := QueuedCommand.holdsTable_of_does does table
  generalize start : ({ s.landed with array := array } : State) = s1
  have landed : s.NoNewJob s1 := by
    subst start
    exact .of_landed rfl fun _ => .of_queue rfl
  have switched := landed.trans (s1.noNewJob_switchover g new)
  cases removed : g.removed with
  | true =>
    have idle : (s1.switchover g new).inFlight = none := by
      rw [(s1.sameCourse_switchover g new).inFlight]
      exact (s1.sameCourse_endChanged g new).inFlight.trans (by rw [← start]; rfl)
    have job := (s.removedJob_eq_some_iff g).mpr ⟨flight, removed, holds⟩
    exact (switched.noJob_of_landed behind law job (State.removedJob_of_idle idle)).jobLaw
  | false =>
    have ended : ((s1.switchover g new).port g.port).activeCommand = none := by
      rw [State.switchover_of_owned removed]
      exact State.activeCommand_finish
        (((landed.trans (s1.noNewJob_endChanged g new)).trans (State.noNewJob_makeLive _ g new)).port g.port
          (behind g.port)).1 .ok
    exact (switched.noJob_of_ended behind law (active removed) holds ended).jobLaw

theorem State.jobLaw_recordsEnd {s : State} (behind : ∀ p, (s.port p).QueuedBehind) (owner : s.ownerLaw = true)
    (law : s.jobLaw = true) {g : Segment} {new : Table} (flight : s.inFlight = some (.segment g))
    (work : g.work = .tableRecords new) (ok : Bool) : (s.recordsEnd g new ok).jobLaw = true := by
  have table : g.work.ofTable = true := by rw [work]; rfl
  unfold State.recordsEnd
  dsimp only
  split
  · rw [State.jobLaw_settle]
    exact State.jobLaw_switchover behind owner law flight table _ new
  · rw [State.jobLaw_settle]
    exact State.jobLaw_fault behind owner law flight table _

theorem State.jobLaw_loadEnd {s : State} (behind : ∀ p, (s.port p).QueuedBehind) (law : s.jobLaw = true)
    (got : List ReadReport) : (s.loadEnd got).jobLaw = true := by
  unfold State.loadEnd
  split
  · have goesOn : s.NoNewJob { s with inFlight := some (.load got) } := .of_none rfl fun _ => .of_queue rfl
    exact goesOn.jobLaw behind law rfl
  · have loaded : ∀ t0 t1, s.NoNewJob (s.loaded t0 t1) := fun t0 t1 => by
      refine .of_landed rfl fun q => .of_queue ?_
      show PortUnit.queue (PerPort.get (PerPort.mapPorts _ _) q) = _
      rw [PerPort.get_mapPorts]
      rfl
    rw [State.jobLaw_settle]
    exact (loaded _ _).jobLaw behind law rfl

/-! ### Expiries, time and the resets -/

theorem State.noNewJob_standbyExpiry (s : State) : s.NoNewJob s.standbyExpiry := by
  unfold State.standbyExpiry
  split
  · exact State.NoNewJob.settle (.of_inFlight rfl fun _ => .of_queue rfl)
  · exact .refl s

theorem State.noNewJob_wakeEnd (s : State) : s.NoNewJob s.wakeEnd := by
  unfold State.wakeEnd
  split
  · exact State.NoNewJob.settle (.of_inFlight rfl fun _ => .of_queue rfl)
  · exact .refl s

theorem State.noNewJob_stallExpiry (s : State) (p : Port) : s.NoNewJob (s.stallExpiry p) := by
  unfold State.stallExpiry
  split
  · exact (s.noNewJob_finish p _).settle
  · exact .refl s

/-- A lease expires in CLAIMED, where there is no job. -/
theorem State.jobLaw_leaseExpiry {s : State} (behind : ∀ p, (s.port p).QueuedBehind) (law : s.jobLaw = true) :
    s.leaseExpiry.jobLaw = true := by
  unfold State.leaseExpiry State.loseClaim
  split
  · split
    · rename_i claimed
      exact ((s.noNewJob_updPort_with .free s.held s.openSets (.of_queue rfl)).noJob behind
        (State.noJob_of_claimed law claimed)).jobLaw
    all_goals exact law
  · exact law

/-- The lease timer counts in CLAIMED, where there is no job; the other table states stay. -/
theorem State.jobLaw_tick {s : State} (behind : ∀ p, (s.port p).QueuedBehind) (law : s.jobLaw = true) :
    s.tick.jobLaw = true := by
  have same : s.NoNewJob s.tick := .of_inFlight rfl fun p => .of_queue (by rw [State.port_tick])
  cases table : s.tableState with
  | claimed h staged lease n => exact (same.noJob behind (State.noJob_of_claimed law table)).jobLaw
  | _ => exact same.jobLaw behind law (State.tableState_tick_of_not_claimed (by simp [table]))

/-- The table state of a job stays over a reset of another port, and over its own port's while its segment is in flight
(R57, R58). -/
theorem State.tableStateAfterReset_of_held {s : State} {p q : Port} {c : QueuedCommand} (holds : c.holdsTable = true)
    (held : s.tableState.heldBy q c = true) (kept : q = p → s.jobInFlight p = true) :
    s.tableStateAfterReset p = s.tableState := by
  obtain ⟨staged, lease, table⟩ | table := TableState.cases_of_heldBy holds held
  all_goals
    simp only [State.tableStateAfterReset, table]
    refine if_neg fun ⟨here, absent⟩ => ?_
    simp [kept here] at absent

/-- A removed job after a port reset: its segment was in flight before, the reset port's or one removed already. -/
theorem State.segment_of_removedJob_clearPort {s : State} {p : Port} {g : Segment}
    (found : (s.clearPort p).removedJob = some g) :
    ∃ h, s.inFlight = some (.segment h) ∧ h.port = g.port ∧ h.cmd = g.cmd ∧ h.cmd.holdsTable = true ∧
      (h.port = p ∨ h.removed = true) := by
  obtain ⟨flight, removed, holds⟩ := (State.removedJob_eq_some_iff _ g).mp found
  rw [State.inFlight_clearPort] at flight
  obtain ⟨f, before, owner⟩ := Option.map_eq_some_iff.mp flight
  cases f with
  | load got => cases owner
  | segment h =>
    simp only [InFlight.removeOwner, InFlight.segment.injEq] at owner
    refine ⟨h, before, ?_⟩
    by_cases here : h.port = p
    · rw [if_pos here] at owner
      subst owner
      exact ⟨rfl, rfl, holds, .inl here⟩
    · rw [if_neg here] at owner
      subst owner
      exact ⟨rfl, rfl, holds, .inr removed⟩

/-- A port reset empties the port's queue. -/
theorem State.queue_clearPort_same (s : State) (p : Port) : ((s.clearPort p).port p).queue = [] := by
  show PortUnit.queue ((s.ports.set p _).get p) = []
  rw [PerPort.get_set_same]
  rfl

theorem State.activeCommand_clearPort (s : State) (p : Port) : ((s.clearPort p).port p).activeCommand = none :=
  PortUnit.activeCommand_of_queued (by simp [State.queue_clearPort_same])

theorem State.noNewActive_clearPort (s : State) (p q : Port) : (s.port q).NoNewActive ((s.clearPort p).port q) := by
  by_cases here : q = p
  · subst here
    refine fun _ => ⟨by simp [PortUnit.QueuedBehind, State.queue_clearPort_same], fun c active => ?_⟩
    simp [State.activeCommand_clearPort] at active
  · refine .of_queue ?_
    show ((s.ports.set p _).get q).queue = _
    rw [PerPort.get_set_of_ne _ _ here]
    rfl

/-- A port reset gives up the port's claim and its job, but a job whose segment is in flight keeps its table state until
that ends (R56 to R58). -/
theorem State.jobLaw_clearPort {s : State} (behind : ∀ p, (s.port p).QueuedBehind) (owner : s.ownerLaw = true)
    (law : s.jobLaw = true) (p : Port) : (s.clearPort p).jobLaw = true := by
  obtain ⟨active, -⟩ := s.jobLaw_iff.mp law
  have table : (s.clearPort p).tableState = s.tableStateAfterReset p := rfl
  refine (State.jobLaw_iff _).mpr ⟨fun q c found holds => ?_, fun g found => ?_⟩
  · have other : q ≠ p := by
      rintro rfl
      simp [State.activeCommand_clearPort] at found
    have before := (s.noNewActive_clearPort p q (behind q)).2 c found
    obtain ⟨held, none⟩ := active q c before holds
    refine ⟨?_, Option.eq_none_iff_forall_ne_some.mpr fun g found => ?_⟩
    · rwa [table, State.tableStateAfterReset_of_held holds held fun here => absurd here other]
    · obtain ⟨h, flight, -, -, job, here | removed⟩ := State.segment_of_removedJob_clearPort found
      · have there := State.heldBy_of_segment law owner flight job
        exact other ((TableState.port_unique_of_heldBy holds job held there).trans here)
      · simp [(s.removedJob_eq_some_iff h).mpr ⟨flight, removed, job⟩] at none
  · obtain ⟨h, flight, port, cmd, job, -⟩ := State.segment_of_removedJob_clearPort found
    have held := State.heldBy_of_segment law owner flight job
    rw [table, ← port, ← cmd, State.tableStateAfterReset_of_held job held fun here => ?_]
    · exact held
    · simp [State.jobInFlight, flight, here, job]

theorem State.jobLaw_resetPort {s : State} (behind : ∀ p, (s.port p).QueuedBehind) (owner : s.ownerLaw = true)
    (law : s.jobLaw = true) (p : Port) : (s.resetPort p).jobLaw = true := by
  unfold State.resetPort
  dsimp only
  rw [State.jobLaw_settle]
  exact (State.noNewJob_updPort_of_queue _ rfl).jobLaw (fun q => (s.noNewActive_clearPort p q (behind q)).1)
    (State.jobLaw_clearPort behind owner law p) rfl

theorem State.activeCommand_wiped (s : State) (begun : Bool) (p : Port) :
    ((s.wiped begun).port p).activeCommand = none := by
  show PortUnit.activeCommand ((PerPort.mapPorts _ _).get p) = none
  rw [PerPort.get_mapPorts]
  rfl

/-- After a part reset and without supply no job is left. -/
theorem State.noJob_of_wiped (s : State) (begun : Bool) {t : State} (ports : t.ports = (s.wiped begun).ports)
    (idle : ∀ g, t.inFlight ≠ some (.segment g)) : t.NoJob := by
  refine ⟨fun p c active => ?_, State.removedJob_of_no_segment idle⟩
  have same : t.port p = (s.wiped begun).port p := congrArg (PerPort.get · p) ports
  simp [same, State.activeCommand_wiped] at active

/-- Every event keeps the table state with the job that holds it. -/
theorem State.Event.jobLaw {s t : State} (behind : ∀ p, (s.port p).QueuedBehind) (owner : s.ownerLaw = true)
    (law : s.jobLaw = true) (e : s.Event t) : t.jobLaw = true := by
  cases e with
  | nothing => exact law
  | commandStart p => exact State.jobLaw_commandStart behind law p
  | grant _ _ work _ =>
    obtain ⟨active, -, -⟩ := State.nextWork_eq_some work
    exact State.jobLaw_grant behind law active _
  | readEnd _ _ _ =>
    rw [State.jobLaw_settle]
    exact (s.noNewJob_readEnd _ _ _).jobLaw behind law (s.tableState_readEnd _ _ _)
  | checkEnd _ _ _ =>
    rw [State.jobLaw_settle]
    exact (s.noNewJob_checkEnd _ _ _).jobLaw behind law (s.tableState_checkEnd _ _ _)
  | writeEnd ok _ _ _ =>
    rw [State.jobLaw_settle]
    exact (s.noNewJob_writeEnd _ _ _ _ _ ok).jobLaw behind law (s.tableState_writeEnd _ _ _ _ _ ok)
  | blankEnd _ _ _ =>
    rw [State.jobLaw_settle]
    exact (s.noNewJob_blankEnd _ _ _ _).jobLaw behind law (s.tableState_blankEnd _ _ _ _)
  | wipeBlockEnd flight cmd _ =>
    rw [State.jobLaw_settle]
    exact State.jobLaw_wipeBlockEnd behind owner law flight cmd
  | tableBlankEnd flight _ => exact (State.noNewJob_goOn flight _ _).jobLaw behind law rfl
  | headerEnd ok flight work => exact State.jobLaw_headerEnd behind owner law flight work ok
  | recordsEnd ok flight work => exact State.jobLaw_recordsEnd behind owner law flight work ok
  | loadEnd _ => exact State.jobLaw_loadEnd behind law _
  | standbyExpiry => exact s.noNewJob_standbyExpiry.jobLaw behind law s.tableState_standbyExpiry
  | wakeEnd => exact s.noNewJob_wakeEnd.jobLaw behind law s.tableState_wakeEnd
  | leaseExpiry => exact State.jobLaw_leaseExpiry behind law
  | stallExpiry p => exact (s.noNewJob_stallExpiry p).jobLaw behind law (s.tableState_stallExpiry p)
  | tick => exact State.jobLaw_tick behind law
  | resetPort p _ _ => exact State.jobLaw_resetPort behind owner law p
  | withPrst p level => exact (s.noNewJob_updPort_of_queue rfl).jobLaw behind law rfl
  | partReset begun _ => exact (s.noJob_of_wiped begun rfl fun g flight => by cases flight).jobLaw
  | partResetUnpowered _ => exact law
  | releaseReset _ =>
    unfold State.releaseReset
    split
    · have load : s.NoNewJob { s with resetLine := false, inFlight := startLoad false } :=
        .of_none rfl fun _ => .of_queue rfl
      exact load.jobLaw behind law rfl
    · exact law
  | powerOn begun => exact State.NoJob.jobLaw (s.noJob_of_wiped begun rfl (startLoad_ne_segment _))
  | powerLoss begun _ => exact (s.noJob_of_wiped begun rfl fun g flight => by cases flight).jobLaw

/-- Settles O16: no access and no event brings a job but a start, which takes the table state where no job holds it; and
a job that ends, or whose removed segment ends, leaves none behind. -/
theorem tableStateFollowsItsJob : Obligations.TableStateFollowsItsJob := by
  intro s t queue owner law h
  have behind : ∀ p, (s.port p).QueuedBehind := fun p =>
    PortUnit.queuedBehind_of_queueLaw ((s.atPorts_iff _).mp queue p)
  exact step_induction
    (I := fun s => (∀ p, (s.port p).QueuedBehind) ∧ s.ownerLaw = true ∧ s.jobLaw = true)
    (J := fun s => s.jobLaw = true)
    (fun _ _ h => h) (fun _ _ _ h => h) (fun _ _ _ h => h)
    (fun ⟨behind, _, law⟩ e => e.jobLaw behind law)
    (fun ⟨behind, owner, law⟩ e => e.jobLaw behind owner law) h ⟨behind, owner, law⟩

end Sys2Proof.Machine

namespace Sys2Proof.Machine

/-! ### An immediate command whose access is made -/

/-- The write of ISSUE by a port whose access is made, with the answer words it leaves. -/
theorem State.next_onWrite_answer {s t : State} {p : Port} {loc : Nat} {effect : State → State}
    (made : s.accessMade p false loc = true) {ws : Vector Word 8} (h : effect s = t.answer p ws) :
    (Host.Outcome.next (s.onWrite p loc effect) : Host.Outcome State Fault Refusal) = .next (t.answered p ws) := by
  rw [State.onWrite_of_made effect made, h]
  rfl

/-! ### CLAIM (R42) -/

theorem State.claim_of_loading {s : State} (loading : s.part = .loading) (p : Port) :
    s.claim p = s.answer p (codeAlone 0x26) := by
  simp only [State.claim, loading, if_true]
  rfl

theorem State.claim_of_bad_lease {s : State} {p : Port} (ready : s.part = .ready)
    (bad : (s.port p).param 0 = 0 ∨ 255 < (s.port p).param 0) : s.claim p = s.answer p (codeAlone 0x25) := by
  simp only [State.claim, ready, bad, reduceCtorEq, if_false, if_true]
  rfl

/-- CLAIM while READY with a lease in its range finds the hold in force. -/
theorem State.claim_of_held {s : State} {p : Port} (ready : s.part = .ready)
    (good : ¬ ((s.port p).param 0 = 0 ∨ 255 < (s.port p).param 0)) (held : s.held = true) :
    s.claim p = s.answer p (codeAlone 0x11) := by
  simp only [State.claim, ready, good, held, reduceCtorEq, if_false, if_true]
  rfl

section

/-! CLAIM while READY with a lease in its range and no hold in force, by the table state. -/

variable {s : State} {p : Port} (ready : s.part = .ready)
  (good : ¬ ((s.port p).param 0 = 0 ∨ 255 < (s.port p).param 0)) (released : s.held = false)

include ready good released

theorem State.claim_of_free (free : s.tableState = .free) :
    s.claim p = { s with tableState := .claimed p s.live ((s.port p).param 0) 0 }.answer p s.claimDone := by
  simp only [State.claim, ready, good, released, free, reduceCtorEq, Bool.false_eq_true, if_false]

/-- The holder renews its claim: the staged table stays. -/
theorem State.claim_of_holder {staged : Table} {lease t : Nat} (claimed : s.tableState = .claimed p staged lease t) :
    s.claim p = { s with tableState := .claimed p staged ((s.port p).param 0) 0 }.answer p s.claimDone := by
  simp only [State.claim, ready, good, released, claimed, reduceCtorEq, Bool.false_eq_true, if_false, if_true]

theorem State.claim_of_claimed {h : Port} (other : h ≠ p) {staged : Table} {lease t : Nat}
    (claimed : s.tableState = .claimed h staged lease t) :
    s.claim p = s.answer p (codeWith 0x0F (BitVec.ofNat 16 (portCode (some h)))) := by
  simp only [State.claim, ready, good, released, claimed, other, reduceCtorEq, Bool.false_eq_true, if_false]
  rfl

theorem State.claim_of_busy
    (busy : (∃ h staged lease, s.tableState = .committing h staged lease) ∨ ∃ j, s.tableState = .updating j) :
    s.claim p = s.answer p (codeAlone 0x10) := by
  obtain ⟨_, _, _, table⟩ | ⟨_, table⟩ := busy
  all_goals
    simp only [State.claim, ready, good, released, table, reduceCtorEq, Bool.false_eq_true, if_false]
    rfl

end

theorem portCode_eq_of_namesPort {n : Nat} {w : Option Port} (h : namesPort n w) : portCode w = n := by
  cases w with
  | none => exact h.symm
  | some q => cases q <;> exact h.symm

/-- Settles O27: the cases of CLAIM in their order. -/
theorem claimAnswersInOrder : Obligations.ClaimAnswersInOrder := by
  rintro s p lease made rfl
  refine ⟨fun loading => ?_, fun ready bad => ?_, fun ready least most => ?_⟩
  · exact State.next_onWrite_answer made (State.claim_of_loading loading p)
  · exact State.next_onWrite_answer made (State.claim_of_bad_lease ready bad)
  have good : ¬ ((s.port p).param 0 = 0 ∨ 255 < (s.port p).param 0) := fun bad => bad.elim
    (Nat.ne_of_gt least) (Nat.not_lt.mpr most)
  refine ⟨fun held => ?_, fun released => ⟨fun free => ?_, fun staged old t claimed => ?_,
    fun h staged old t n other claimed names => ?_, fun busy => ?_⟩⟩
  · exact State.next_onWrite_answer made (State.claim_of_held ready good held)
  · exact State.next_onWrite_answer made (State.claim_of_free ready good released free)
  · exact State.next_onWrite_answer made (State.claim_of_holder ready good released claimed)
  · rw [← portCode_eq_of_namesPort names]
    exact State.next_onWrite_answer made (State.claim_of_claimed ready good released other claimed)
  · exact State.next_onWrite_answer made (State.claim_of_busy ready good released busy)

/-! ### DISCARD (R45) -/

/-- Settles O28: DISCARD by the table state. -/
theorem discardDropsTheHoldersClaim : Obligations.DiscardDropsTheHoldersClaim := by
  intro s p made
  refine ⟨fun loading => ?_, fun ready => ⟨fun staged lease t claimed => ?_, fun staged lease committing => ?_,
    fun notClaimed notCommitting => ?_⟩⟩
  all_goals refine State.next_onWrite_answer made ?_
  · simp only [State.discard, loading, if_true]
    rfl
  · simp only [State.discard, ready, claimed, if_true, reduceCtorEq, if_false]
    rfl
  · simp only [State.discard, ready, committing, if_true, reduceCtorEq, if_false]
    rfl
  · cases table : s.tableState with
    | claimed h staged lease t =>
      have other : h ≠ p := fun here => notClaimed staged lease t (here ▸ table)
      simp only [State.discard, ready, table, other, reduceCtorEq, if_false]
      rfl
    | committing h staged lease =>
      have other : h ≠ p := fun here => notCommitting staged lease (here ▸ table)
      simp only [State.discard, ready, table, other, reduceCtorEq, if_false]
      rfl
    | _ =>
      simp only [State.discard, ready, table, reduceCtorEq, if_false]
      rfl

/-! ### The gate of the edits (R47) -/

theorem State.edit_of_loading {s : State} (loading : s.part = .loading) (p : Port) (f : Table → Nat ⊕ Table) :
    s.edit p f = s.answer p (codeAlone 0x26) := by
  simp only [State.edit, loading, if_true]
  rfl

theorem State.edit_of_committing {s : State} {p : Port} {staged : Table} {lease : Nat} (ready : s.part = .ready)
    (committing : s.tableState = .committing p staged lease) (f : Table → Nat ⊕ Table) :
    s.edit p f = s.answer p (codeAlone 0x10) := by
  simp only [State.edit, ready, committing, reduceCtorEq, if_false, if_true]
  rfl

theorem State.edit_of_not_holder {s : State} {p : Port} (ready : s.part = .ready)
    (notClaimed : ∀ staged lease t, s.tableState ≠ .claimed p staged lease t)
    (notCommitting : ∀ staged lease, s.tableState ≠ .committing p staged lease) (f : Table → Nat ⊕ Table) :
    s.edit p f = s.answer p (codeAlone 0x0E) := by
  cases table : s.tableState with
  | claimed h staged lease t =>
    have other : h ≠ p := fun here => notClaimed staged lease t (here ▸ table)
    simp only [State.edit, ready, table, other, reduceCtorEq, if_false]
    rfl
  | committing h staged lease =>
    have other : h ≠ p := fun here => notCommitting staged lease (here ▸ table)
    simp only [State.edit, ready, table, other, reduceCtorEq, if_false]
    rfl
  | _ =>
    simp only [State.edit, ready, table, reduceCtorEq, if_false]
    rfl

/-- The holder's edit that is refused changes nothing but the answer. -/
theorem State.edit_of_refused {s : State} {p : Port} {staged : Table} {lease t code : Nat} (ready : s.part = .ready)
    (claimed : s.tableState = .claimed p staged lease t) {f : Table → Nat ⊕ Table} (refused : f staged = .inl code) :
    s.edit p f = s.answer p (answerCode code) := by
  simp only [State.edit, ready, claimed, refused, reduceCtorEq, if_false, if_true]

/-- The holder's edit that is taken changes the staged table. -/
theorem State.edit_of_taken {s : State} {p : Port} {staged new : Table} {lease t : Nat} (ready : s.part = .ready)
    (claimed : s.tableState = .claimed p staged lease t) {f : Table → Nat ⊕ Table} (taken : f staged = .inr new) :
    s.edit p f = { s with tableState := .claimed p new lease t }.answer p (codeAlone 0x20) := by
  simp only [State.edit, ready, claimed, taken, reduceCtorEq, if_false, if_true]
  rfl

/-- What one of the four edits does to the staged table, by the port's parameter words (R177). -/
def PortUnit.editOf (u : PortUnit) : Instr → Table → Nat ⊕ Table
  | .define _ => fun t => t.define (u.param 0) (u.param 1) (u.param 2) (u.param 3) (u.param 4)
  | .delete _ => fun t => t.delete (u.param 0)
  | .resize _ => fun t => t.resize (u.param 0) (u.param 1)
  | .modify _ => fun t => t.modify (u.param 0) (u.param 1) (u.param 2)
  | _ => fun t => .inr t

/-- The four edits are edits of the staged table by their own test. -/
theorem exec_edit {c : Instr} {p : Port} (one : c ∈ [Instr.define p, .delete p, .resize p, .modify p]) (s : State) :
    exec c s = .next (s.onWrite p 0 fun s => s.edit p ((s.port p).editOf c)) := by
  simp only [List.mem_cons, List.not_mem_nil, or_false] at one
  obtain rfl | rfl | rfl | rfl := one
  all_goals rfl

/-- An edit by the holder in CLAIMED that its test refuses changes nothing but the answer. -/
theorem exec_edit_of_refused (code : Nat) {c : Instr} {s : State} {p : Port} {staged : Table} {lease t : Nat}
    (one : c ∈ [Instr.define p, .delete p, .resize p, .modify p]) (made : s.accessMade p false 0 = true)
    (ready : s.part = .ready) (claimed : s.tableState = .claimed p staged lease t)
    (refused : (s.port p).editOf c staged = .inl code) : exec c s = .next (s.answered p (answerCode code)) := by
  rw [exec_edit one]
  exact State.next_onWrite_answer made (State.edit_of_refused ready claimed refused)

/-- An edit by the holder in CLAIMED that its test takes changes the staged table. -/
theorem exec_edit_of_taken {c : Instr} {s : State} {p : Port} {staged new : Table} {lease t : Nat}
    (one : c ∈ [Instr.define p, .delete p, .resize p, .modify p]) (made : s.accessMade p false 0 = true)
    (ready : s.part = .ready) (claimed : s.tableState = .claimed p staged lease t)
    (taken : (s.port p).editOf c staged = .inr new) :
    exec c s = .next ({ s with tableState := .claimed p new lease t }.answered p (codeAlone 0x20)) := by
  rw [exec_edit one]
  exact State.next_onWrite_answer made (State.edit_of_taken ready claimed taken)

/-- Settles O29: the four edits are one edit with a test of its own, and the gate stands before the test. -/
theorem editsPassTheGate : Obligations.EditsPassTheGate := by
  intro s p made c one
  rw [exec_edit one]
  refine ⟨fun loading => ?_, fun ready => ⟨fun staged lease committing => ?_, fun notClaimed notCommitting => ?_⟩⟩
  · exact State.next_onWrite_answer made (State.edit_of_loading loading p _)
  · exact State.next_onWrite_answer made (State.edit_of_committing ready committing _)
  · exact State.next_onWrite_answer made (State.edit_of_not_holder ready notClaimed notCommitting _)

/-! ### The parameters of an edit (R178) -/

theorem indexOf_val (i : Index) : indexOf i.val = some i := dif_pos i.isLt

theorem indexOf_of_gt {n : Nat} (h : 7 < n) : indexOf n = none := dif_neg (by omega)

theorem writerOf_eq_some_iff (n : Nat) (w : Option Port) : writerOf n = some w ↔ namesPort n w := by
  constructor
  · intro h
    unfold writerOf at h
    split at h
    all_goals cases h
    all_goals rfl
  · intro h
    cases w with
    | none => rw [show n = 0 from h]; rfl
    | some q => cases q <;> rw [h] <;> rfl

theorem writerOf_of_gt {n : Nat} (h : 3 < n) : writerOf n = none := by
  refine Option.eq_none_iff_forall_ne_some.mpr fun w found => ?_
  have names := (writerOf_eq_some_iff n w).mp found
  cases w with
  | none => exact absurd names (by show n ≠ 0; omega)
  | some q => cases q <;> simp only [namesPort] at names <;> omega

theorem portSetOf_eq_some_iff (n : Nat) (r : PortSet) : portSetOf n = some r ↔ namesPortSet n r := by
  simp only [portSetOf, namesPortSet, Option.ite_none_right_eq_some, Option.some.injEq, eq_comm (b := r)]

theorem portSetOf_of_gt {n : Nat} (h : 7 < n) : portSetOf n = none := if_neg (by omega)

theorem writerReads_iff (w : Option Port) (r : PortSet) : writerReads w r = true ↔ amongReaders w r := by
  cases w with
  | none => simp [writerReads, amongReaders]
  | some p => simp [writerReads, amongReaders]

/-- Of numbers that the edits refuse, a writer and a reader set that they name have the writer among the readers. -/
theorem writerReads_of_bad {n m : Nat}
    (bad : 3 < n ∨ 7 < m ∨ ∃ w r, namesPort n w ∧ namesPortSet m r ∧ amongReaders w r) {w : Option Port} {r : PortSet}
    (writer : writerOf n = some w) (readers : portSetOf m = some r) : writerReads w r = true := by
  obtain large | large | ⟨w', r', namesW, namesR, among⟩ := bad
  · simp [writerOf_of_gt large] at writer
  · simp [portSetOf_of_gt large] at readers
  · rw [(writerOf_eq_some_iff n w').mpr namesW] at writer
    rw [(portSetOf_eq_some_iff m r').mpr namesR] at readers
    cases writer
    cases readers
    exact (writerReads_iff w r).mpr among

/-! ### The blocks of other records (R48, R50) -/

theorem Table.overlaps_of_blockTaken {t : Table} {i : Index} {lo hi : Nat}
    (h : ∃ b, lo ≤ b ∧ b < hi ∧ t.blockTaken i b) : t.overlaps i lo hi = true := by
  obtain ⟨b, above, below, j, x, other, defined, first, last⟩ := h
  refine Bool.eq_true_of_not_eq_false fun free => ?_
  have apart := (t.overlaps_eq_false_iff i lo hi).mp free j x other defined
  omega

theorem Table.overlaps_of_not_blockTaken {t : Table} (valid : t.valid = true) {i : Index} {lo hi : Nat}
    (h : ∀ b, lo ≤ b → b < hi → ¬ t.blockTaken i b) : t.overlaps i lo hi = false := by
  refine Bool.eq_false_iff.mpr fun overlaps => ?_
  obtain ⟨b, above, below, taken⟩ := (Table.overlaps_iff valid i lo hi).mp overlaps
  exact h b above below taken

/-- The staged table of a claim is valid where the tables are (R20). -/
theorem State.valid_of_claimed {s : State} (h : s.tablesValid = true) {p : Port} {staged : Table} {lease t : Nat}
    (claimed : s.tableState = .claimed p staged lease t) : staged.valid = true := by
  obtain ⟨-, valid, -⟩ := s.tablesValid_iff.mp h
  exact valid staged (by rw [claimed]; rfl)

/-! ### DEFINE on a table (R48) -/

theorem Table.define_of_no_index (t : Table) {n : Nat} (h : 7 < n) (first count writer readers : Nat) :
    t.define n first count writer readers = .inl codeBadParam := by
  simp only [Table.define, indexOf_of_gt h]

theorem Table.define_of_defined {t : Table} {i : Index} {x : Partition} (h : t.records[i] = some x)
    (first count writer readers : Nat) : t.define i first count writer readers = .inl codeDefined := by
  simp only [Table.define, indexOf_val, h, Option.isSome_some, if_true]

/-- DEFINE whose writer or readers name nothing (R178). -/
theorem Table.define_of_no_ports {t : Table} {i : Index} (h : t.records[i] = none) {writer readers : Nat}
    (none : writerOf writer = none ∨ portSetOf readers = none) (first count : Nat) :
    t.define i first count writer readers = .inl codeBadParam := by
  simp only [Table.define, indexOf_val, h, Option.isSome_none, Bool.false_eq_true, if_false]
  split
  · rename_i writerGiven readersGiven
    simp [writerGiven, readersGiven] at none
  · rfl

/-- DEFINE of an undefined record with the values given tests their ranges and then the blocks of the others. -/
theorem Table.define_of_ports {t : Table} {i : Index} (h : t.records[i] = none) {writer readers : Nat}
    {w : Option Port} {r : PortSet} (writerGiven : writerOf writer = some w) (readersGiven : portSetOf readers = some r)
    (first count : Nat) :
    t.define i first count writer readers =
      if first < 2 ∨ 1023 < first ∨ count < 1 ∨ 1022 < count ∨ 1024 < first + count ∨ writerReads w r = true then
        .inl codeBadParam
      else if t.overlaps i first (first + count) then .inl codeOverlap
      else .inr (t.withRecord i
        (some { firstBlock := first, blockCount := count, writer := w, readers := r, lock := none })) := by
  simp only [Table.define, indexOf_val, h, writerGiven, readersGiven, Option.isSome_none, Bool.false_eq_true, if_false]

theorem Table.define_of_bad {t : Table} {i : Index} (h : t.records[i] = none) {first count writer readers : Nat}
    (bad : first < 2 ∨ 1023 < first ∨ count < 1 ∨ 1022 < count ∨ 1024 < first + count ∨ 3 < writer ∨ 7 < readers ∨
      ∃ w r, namesPort writer w ∧ namesPortSet readers r ∧ amongReaders w r) :
    t.define i first count writer readers = .inl codeBadParam := by
  cases writerGiven : writerOf writer with
  | none => exact Table.define_of_no_ports h (.inl writerGiven) first count
  | some w =>
    cases readersGiven : portSetOf readers with
    | none => exact Table.define_of_no_ports h (.inr readersGiven) first count
    | some r =>
      have reads := fun ports => writerReads_of_bad ports writerGiven readersGiven
      rw [Table.define_of_ports h writerGiven readersGiven]
      refine if_pos ?_
      obtain low | high | least | most | last | ports := bad
      · exact .inl low
      · exact .inr (.inl high)
      · exact .inr (.inr (.inl least))
      · exact .inr (.inr (.inr (.inl most)))
      · exact .inr (.inr (.inr (.inr (.inl last))))
      · exact .inr (.inr (.inr (.inr (.inr (reads ports)))))

/-- DEFINE with all its values good is refused for a block of another record, or taken. -/
theorem Table.define_of_good {t : Table} {i : Index} (h : t.records[i] = none) {first count writer readers : Nat}
    {w : Option Port} {r : PortSet} (low : 2 ≤ first) (high : first ≤ 1023) (least : 1 ≤ count) (most : count ≤ 1022)
    (last : first + count ≤ 1024) (namesW : namesPort writer w) (namesR : namesPortSet readers r)
    (apart : ¬ amongReaders w r) :
    t.define i first count writer readers =
      if t.overlaps i first (first + count) then .inl codeOverlap
      else .inr (t.withRecord i
        (some { firstBlock := first, blockCount := count, writer := w, readers := r, lock := none })) := by
  have reads : ¬ writerReads w r = true := fun reads => apart ((writerReads_iff w r).mp reads)
  rw [Table.define_of_ports h ((writerOf_eq_some_iff writer w).mpr namesW)
    ((portSetOf_eq_some_iff readers r).mpr namesR)]
  refine if_neg ?_
  rintro (bad | bad | bad | bad | bad | bad)
  case inr.inr.inr.inr.inr => exact reads bad
  all_goals omega

/-- Settles O30: DEFINE case by case on the staged table. -/
theorem defineTestsInOrder : Obligations.DefineTestsInOrder := by
  intro s p staged lease t a0 a1 a2 a3 a4 made ready claimed given0 given1 given2 given3 given4
  have tests : (s.port p).editOf (.define p) staged = staged.define a0 a1 a2 a3 a4 := by
    rw [← given0, ← given1, ← given2, ← given3, ← given4]
    rfl
  have refused : ∀ code, staged.define a0 a1 a2 a3 a4 = .inl code →
      exec (.define p) s = .next (s.answered p (answerCode code)) := fun code h =>
    exec_edit_of_refused code (by simp) made ready claimed (tests.trans h)
  refine ⟨fun large => refused codeBadParam (staged.define_of_no_index large a1 a2 a3 a4), ?_⟩
  rintro i rfl
  refine ⟨fun ⟨x, defined⟩ => refused codeDefined (Table.define_of_defined defined a1 a2 a3 a4),
    fun undefined => ⟨fun bad => refused codeBadParam (Table.define_of_bad undefined bad),
      fun w r low high least most last namesW namesR apart => ?_⟩⟩
  have good := Table.define_of_good undefined low high least most last namesW namesR apart
  refine ⟨fun taken => refused codeOverlap ?_, fun valid free => exec_edit_of_taken (by simp) made ready claimed
    (tests.trans ?_)⟩
  · rw [good, if_pos (Table.overlaps_of_blockTaken taken)]
  · rw [good, Table.overlaps_of_not_blockTaken (State.valid_of_claimed valid claimed) free]
    rfl

/-! ### DELETE, RESIZE and MODIFY on a table (R49 to R51) -/

theorem Table.delete_of_no_index (t : Table) {n : Nat} (h : 7 < n) : t.delete n = .inl codeBadParam := by
  simp only [Table.delete, indexOf_of_gt h]

theorem Table.delete_of_undefined {t : Table} {i : Index} (h : t.records[i] = none) :
    t.delete i = .inl codeNotDefined := by
  simp only [Table.delete, indexOf_val, h, Option.isNone_none, if_true]

theorem Table.delete_of_defined {t : Table} {i : Index} {x : Partition} (h : t.records[i] = some x) :
    t.delete i = .inr (t.withRecord i none) := by
  simp only [Table.delete, indexOf_val, h, Option.isNone_some, Bool.false_eq_true, if_false]

theorem Table.resize_of_no_index (t : Table) {n : Nat} (h : 7 < n) (count : Nat) :
    t.resize n count = .inl codeBadParam := by
  simp only [Table.resize, indexOf_of_gt h]

theorem Table.resize_of_undefined {t : Table} {i : Index} (h : t.records[i] = none) (count : Nat) :
    t.resize i count = .inl codeNotDefined := by
  simp only [Table.resize, indexOf_val, h]

theorem Table.resize_of_bad {t : Table} {i : Index} {x : Partition} (h : t.records[i] = some x) {count : Nat}
    (bad : count < 1 ∨ 1022 < count ∨ 1024 < x.firstBlock + count) : t.resize i count = .inl codeBadParam := by
  simp only [Table.resize, indexOf_val, h]
  exact if_pos bad

/-- RESIZE with a good count is refused for an added block of another record, or taken. -/
theorem Table.resize_of_good {t : Table} {i : Index} {x : Partition} (h : t.records[i] = some x) {count : Nat}
    (least : 1 ≤ count) (most : count ≤ 1022) (last : x.firstBlock + count ≤ 1024) :
    t.resize i count =
      if t.overlaps i (x.firstBlock + x.blockCount) (x.firstBlock + count) then .inl codeOverlap
      else .inr (t.withRecord i (some { x with blockCount := count })) := by
  simp only [Table.resize, indexOf_val, h]
  exact if_neg (by omega)

theorem Table.modify_of_no_index (t : Table) {n : Nat} (h : 7 < n) (writer readers : Nat) :
    t.modify n writer readers = .inl codeBadParam := by
  simp only [Table.modify, indexOf_of_gt h]

theorem Table.modify_of_undefined {t : Table} {i : Index} (h : t.records[i] = none) (writer readers : Nat) :
    t.modify i writer readers = .inl codeNotDefined := by
  simp only [Table.modify, indexOf_val, h]

theorem Table.modify_of_bad {t : Table} {i : Index} {x : Partition} (h : t.records[i] = some x)
    {writer readers : Nat}
    (bad : 3 < writer ∨ 7 < readers ∨ ∃ w r, namesPort writer w ∧ namesPortSet readers r ∧ amongReaders w r) :
    t.modify i writer readers = .inl codeBadParam := by
  simp only [Table.modify, indexOf_val, h]
  split
  · rename_i w r writerGiven readersGiven
    exact if_pos (writerReads_of_bad bad writerGiven readersGiven)
  · rfl

theorem Table.modify_of_good {t : Table} {i : Index} {x : Partition} (h : t.records[i] = some x)
    {writer readers : Nat} {w : Option Port} {r : PortSet} (namesW : namesPort writer w)
    (namesR : namesPortSet readers r) (apart : ¬ amongReaders w r) :
    t.modify i writer readers = .inr (t.withRecord i (some { x with writer := w, readers := r })) := by
  have reads : ¬ writerReads w r = true := fun reads => apart ((writerReads_iff w r).mp reads)
  simp only [Table.modify, indexOf_val, h, (writerOf_eq_some_iff writer w).mpr namesW,
    (portSetOf_eq_some_iff readers r).mpr namesR]
  exact if_neg reads

/-- Settles O31: DELETE, RESIZE and MODIFY case by case on the staged table. -/
theorem deleteResizeModifyTestInOrder : Obligations.DeleteResizeModifyTestInOrder := by
  intro s p staged lease t a0 a1 a2 made ready claimed given0 given1 given2
  have deletes : (s.port p).editOf (.delete p) staged = staged.delete a0 := by
    rw [← given0]
    rfl
  have resizes : (s.port p).editOf (.resize p) staged = staged.resize a0 a1 := by
    rw [← given0, ← given1]
    rfl
  have modifies : (s.port p).editOf (.modify p) staged = staged.modify a0 a1 a2 := by
    rw [← given0, ← given1, ← given2]
    rfl
  have refused : ∀ code c, c ∈ [Instr.delete p, .resize p, .modify p] → (s.port p).editOf c staged = .inl code →
      exec c s = .next (s.answered p (answerCode code)) := fun code c one h =>
    exec_edit_of_refused code (List.mem_cons_of_mem _ one) made ready claimed h
  have taken : ∀ new c, c ∈ [Instr.delete p, .resize p, .modify p] → (s.port p).editOf c staged = .inr new →
      exec c s = .next ({ s with tableState := .claimed p new lease t }.answered p (codeAlone 0x20)) :=
    fun new c one h => exec_edit_of_taken (List.mem_cons_of_mem _ one) made ready claimed h
  have each : ∀ code, staged.delete a0 = .inl code → staged.resize a0 a1 = .inl code →
      staged.modify a0 a1 a2 = .inl code → ∀ c ∈ [Instr.delete p, .resize p, .modify p],
        exec c s = .next (s.answered p (answerCode code)) := by
    intro code delete resize modify c one
    refine refused code c one ?_
    simp only [List.mem_cons, List.not_mem_nil, or_false] at one
    obtain rfl | rfl | rfl := one
    · exact deletes.trans delete
    · exact resizes.trans resize
    · exact modifies.trans modify
  refine ⟨fun large => each codeBadParam (staged.delete_of_no_index large) (staged.resize_of_no_index large a1)
    (staged.modify_of_no_index large a1 a2), ?_⟩
  rintro i rfl
  refine ⟨fun undefined => each codeNotDefined (Table.delete_of_undefined undefined)
    (Table.resize_of_undefined undefined a1) (Table.modify_of_undefined undefined a1 a2), fun x defined => ?_⟩
  refine ⟨taken _ _ (by simp) (deletes.trans (Table.delete_of_defined defined)),
    fun bad => refused codeBadParam _ (by simp) (resizes.trans (Table.resize_of_bad defined bad)),
    fun least most last => ?_,
    fun bad => refused codeBadParam _ (by simp) (modifies.trans (Table.modify_of_bad defined bad)),
    fun w r namesW namesR apart =>
      taken _ _ (by simp) (modifies.trans (Table.modify_of_good defined namesW namesR apart))⟩
  have good := Table.resize_of_good defined least most last
  refine ⟨fun overlap => refused codeOverlap _ (by simp) (resizes.trans ?_),
    fun valid free => taken _ _ (by simp) (resizes.trans ?_)⟩
  · rw [good, if_pos (Table.overlaps_of_blockTaken overlap)]
  · rw [good, Table.overlaps_of_not_blockTaken (State.valid_of_claimed valid claimed) free]
    rfl

end Sys2Proof.Machine

namespace Sys2Proof.Machine

/-! ### When the oldest entry may start (R64) -/

theorem State.mayStart_iff (s : State) (p : Port) :
    s.mayStart p = true ↔
      s.part = .ready ∧ (s.port p).queue ≠ [] ∧ (∀ e ∈ (s.port p).queue, e.active = none) ∧
        (s.port p).completions.length + (s.port p).reserved < 8 := by
  simp only [State.mayStart, Bool.and_eq_true, decide_eq_true_eq, Bool.not_eq_true', List.isEmpty_eq_false_iff,
    List.all_eq_true, Option.isNone_iff_eq_none, and_assoc]
  rfl

theorem State.mayStart_of_startReady {s : State} {p : Port} {e : Entry} {rest : List Entry}
    (h : s.startReady p e rest) : s.mayStart p = true := by
  obtain ⟨ready, queue, oldest, behind, slot⟩ := h
  refine (s.mayStart_iff p).mpr ⟨ready, by simp [queue], fun x mem => ?_, slot⟩
  obtain rfl | later := List.mem_cons.mp (queue ▸ mem)
  · exact oldest
  · exact behind x later

theorem State.commandStart_of_not_mayStart {s : State} {p : Port} (h : s.mayStart p = false) :
    s.commandStart p = s := by
  rw [State.commandStart, h, if_neg Bool.false_ne_true]

/-! ### What a start does, in the words of the statements (R66) -/

/-- The oldest entry starts, and its command becomes ACTIVE. -/
theorem exec_commandStart_of_runs {s : State} {p : Port} {e : Entry} {rest : List Entry} (h : s.startReady p e rest)
    {pr : Progress} (runs : s.startOutcome p e.cmd = .runs pr) :
    exec (.commandStart p) s = .next ((s.startActive p e rest pr).enterTableState p e.cmd).settle := by
  have may := State.mayStart_of_startReady h
  obtain ⟨-, queue, -⟩ := h
  show Host.Outcome.next (s.commandStart p) = _
  simp only [State.commandStart, may, if_true, queue, runs, State.becomeActive, State.updPort, List.tail_cons]
  rfl

/-- The oldest entry starts, and its command ends at once: the slot it reserved takes its record. -/
theorem exec_commandStart_of_ends {s : State} {p : Port} {e : Entry} {rest : List Entry} (h : s.startReady p e rest)
    {st : Status} (ends : s.startOutcome p e.cmd = .ends st) (spared : st ≠ .keyMismatch) :
    exec (.commandStart p) s =
      .next ((s.startEnded p rest (s.startRecord e st)).openIfMatched p e.cmd st).settle := by
  have may := State.mayStart_of_startReady h
  obtain ⟨-, queue, -⟩ := h
  show Host.Outcome.next (s.commandStart p) = _
  simp only [State.commandStart, may, if_true, queue, ends, State.endAtStart, State.updPort, PortUnit.spend, spared,
    if_false, List.tail_cons]
  rfl

/-! ### COMMIT (R52) -/

theorem State.startCommit_of_claimed {s : State} {p : Port} {staged : Table} {lease t : Nat}
    (claimed : s.tableState = .claimed p staged lease t) : s.startCommit p = .runs (.job true) := by
  simp only [State.startCommit, claimed, if_true]

theorem State.startCommit_of_not_claimed {s : State} {p : Port}
    (other : ∀ staged lease t, s.tableState ≠ .claimed p staged lease t) : s.startCommit p = .ends .notHolder := by
  cases outcome : s.startCommit p with
  | runs pr =>
    obtain ⟨-, staged, lease, t, claimed⟩ := State.claimed_of_startCommit_runs outcome
    exact absurd claimed (other staged lease t)
  | ends st =>
    unfold State.startCommit at outcome
    repeat' split at outcome
    all_goals cases outcome
    all_goals rfl

/-- Settles O48: the start of a COMMIT by the table state, and R64's conditions one by one. -/
theorem commitStartsAtTheHolder : Obligations.CommitStartsAtTheHolder := by
  intro s p
  refine ⟨fun e rest ready commit => ⟨fun staged lease t claimed => ?_, fun other => ?_⟩, fun blocked => ?_⟩
  · have runs : s.startOutcome p e.cmd = .runs (.job true) := by
      rw [commit]
      exact State.startCommit_of_claimed claimed
    have active : (s.startActive p e rest (.job true)).tableState = .claimed p staged lease t := claimed
    rw [exec_commandStart_of_runs ready runs, commit, State.enterTableState_commit_of_claimed p active]
  · have ends : s.startOutcome p e.cmd = .ends .notHolder := by
      rw [commit]
      exact State.startCommit_of_not_claimed other
    rw [exec_commandStart_of_ends ready ends (by simp)]
    simp only [State.startRecord, commit, State.openIfMatched]
    rfl
  · have may : s.mayStart p = false := by
      refine Bool.eq_false_iff.mpr fun may => ?_
      obtain ⟨ready, entry, queued, slot⟩ := (s.mayStart_iff p).mp may
      obtain loading | empty | ⟨e, mem, active⟩ | full := blocked
      · simp [ready] at loading
      · exact entry empty
      · exact active (queued e mem)
      · omega
    exact congrArg Host.Outcome.next (State.commandStart_of_not_mayStart may)

end Sys2Proof.Machine

namespace Sys2Proof.Machine

/-! ### The segment that a port's ACTIVE entry has in flight (R61, R71, R73) -/

/-- The segment in flight, when it is one of the port's ACTIVE entry and not of an entry removed by a port reset. -/
def State.own (s : State) (p : Port) : Option Segment :=
  match s.inFlight with
  | some (.segment g) => if g.port = p ∧ g.removed = false then some g else none
  | some (.load _) => none
  | none => none

theorem State.own_eq_some_iff (s : State) (p : Port) (g : Segment) :
    s.own p = some g ↔ s.inFlight = some (.segment g) ∧ g.port = p ∧ g.removed = false := by
  unfold State.own
  split
  · rename_i h flight
    simp only [flight, Option.ite_none_right_eq_some, Option.some.injEq, InFlight.segment.injEq]
    constructor
    · rintro ⟨owner, rfl⟩
      exact ⟨rfl, owner⟩
    · rintro ⟨rfl, owner⟩
      exact ⟨owner, rfl⟩
  · rename_i flight
    simp [flight]
  · rename_i flight
    simp [flight]

theorem State.own_congr {s t : State} (h : t.inFlight = s.inFlight) (p : Port) : t.own p = s.own p := by
  simp only [State.own, h]

theorem State.own_of_no_segment {s : State} (h : ∀ g, s.inFlight ≠ some (.segment g)) (p : Port) : s.own p = none :=
  Option.eq_none_iff_forall_ne_some.mpr fun g owned => h g ((s.own_eq_some_iff p g).mp owned).1

theorem State.own_of_idle {s : State} (h : s.inFlight = none) (p : Port) : s.own p = none :=
  State.own_of_no_segment (by simp [h]) p

theorem State.ownSegment_iff (s : State) (p : Port) :
    s.ownSegment p = true ↔ ∃ g, s.inFlight = some (.segment g) ∧ g.port = p ∧ g.removed = false := by
  unfold State.ownSegment
  split
  · rename_i flight
    simp [flight]
  · rename_i flight
    simp [flight]
  · rename_i flight
    simp [flight]

theorem State.ownSegment_eq (s : State) (p : Port) : s.ownSegment p = (s.own p).isSome := by
  rw [Bool.eq_iff_iff, State.ownSegment_iff, Option.isSome_iff_exists]
  exact exists_congr fun g => (s.own_eq_some_iff p g).symm

theorem State.own_of_not_ownSegment {s : State} {p : Port} (h : s.ownSegment p = false) : s.own p = none := by
  rwa [State.ownSegment_eq, Option.isSome_eq_false_iff, Option.isNone_iff_eq_none] at h

/-- The segment in flight is at most one port's own. -/
theorem State.own_of_other {s : State} {g : Segment} (flight : s.inFlight = some (.segment g)) {q : Port}
    (other : q ≠ g.port ∨ g.removed = true) : s.own q = none := by
  refine Option.eq_none_iff_forall_ne_some.mpr fun h owned => ?_
  obtain ⟨there, port, kept⟩ := (s.own_eq_some_iff q h).mp owned
  cases flight.symm.trans there
  obtain other | removed := other
  · exact other port.symm
  · simp [kept] at removed

theorem State.own_of_flight {s : State} {g : Segment} (flight : s.inFlight = some (.segment g))
    (kept : g.removed = false) : s.own g.port = some g := (s.own_eq_some_iff _ g).mpr ⟨flight, rfl, kept⟩

/-! ### What one step does to a port's queue and to the segment of its ACTIVE entry -/

/-- A READ counts a report (R110, R111). -/
def ReadProgress.reported (r : ReadProgress) (count : Nat) : ReadReport → ReadProgress
  | .data _ | .blank =>
    { r with sectorsRead := r.sectorsRead + 1,
             readingClosed := r.readingClosed || decide (r.sectorsRead + 1 = count) }
  | .unreadable => { r with failAt := some (r.nextSector - 1), readingClosed := true }

/-- How a command's progress counts the end of a segment's work (R110, R111, R119, R124, R130, R134); `blocks` is the
block_count of a live record. -/
inductive QueuedCommand.Counts (blocks : Index → Nat) : QueuedCommand → Work → Progress → Progress → Prop
  | reported {i : Index} {start count : Nat} {work : Work} {r : ReadProgress} (report : ReadReport) :
    Counts blocks (.read i start count) work (.read r) (.read (r.reported count report))
  | checked {i : Index} {start count : Nat} {work : Work} {c : CheckProgress} (report : ReadReport) :
    Counts blocks (.check i start count) work (.check c) (.check (c.counted report))
  | written {i : Index} {start count : Nat} {work : Work} {w : WriteProgress} :
    Counts blocks (.write i start count) work (.write w)
      (.write { w with sectorsDone := w.sectorsDone + 1, nextSector := w.nextSector + 1 })
  | blanked {i : Index} {first count : Nat} {work : Work} {b : BlankProgress} :
    Counts blocks (.blank i first count) work (.blank b) (.blank { b with blocksDone := b.blocksDone + 1 })
  | wiped {i : Index} {which : Which} {key : Key} {b : Nat} {k : WipeProgress} :
    Counts blocks (.wipe i which key) (.blankBlock b) (.wipe k)
      (.wipe { k with blocksDone := k.blocksDone + 1, tableDue := decide (k.blocksDone + 1 = blocks i) })

/-- The progress with which a granted segment leaves the ACTIVE entry (R109, R119, R130, R134). -/
def Progress.granted : Progress → Progress
  | .read r => .read { r with nextSector := r.nextSector + 1 }
  | .check c => .check { c with nextSector := c.nextSector + 1 }
  | .write w => .write w
  | .blank b => .blank { b with nextBlock := b.nextBlock + 1 }
  | .wipe w => .wipe (if w.tableDue then { w with tableDue := false } else { w with nextBlock := w.nextBlock + 1 })
  | .job _ => .job false

/-- How an ACTIVE entry that stays ACTIVE goes on: what it holds afterwards, and its segment in flight. -/
inductive State.Goes (s : State) (p : Port) (e : Entry) (a : Active) : Active → Option Segment → Prop
  | abort {g : Segment} (own : s.own p = some g) : Goes s p e a { a with abortPending := true } (some g)
  | drained {r : ReadProgress} (progress : a.progress = .read r) (done met : Nat) :
    Goes s p e a { a with progress := .read { r with sectorsDone := done, blankMet := met } } (s.own p)
  | granted {w : Work} (work : s.nextWork p = some (e, a, w)) :
    Goes s p e a { a with progress := a.progress.granted }
      (some { port := p, cmd := e.cmd, removed := false, work := w })
  | landed {g : Segment} {pr : Progress} (own : s.own p = some g) (kept : a.abortPending = false)
    (counts : g.cmd.Counts s.blockCount g.work a.progress pr) : Goes s p e a { a with progress := pr } none

/-- All that one step can do to a port's queue and to the segment of its ACTIVE entry (R60, R62, R64, R67, R73, R75). -/
inductive State.Move (s : State) (p : Port) : List Entry → Option Segment → Prop
  | stays : Move s p (s.port p).queue (s.own p)
  /-- An issue is accepted (R62). -/
  | joins {e : Entry} (queued : e.active = none) (room : (s.port p).queue.length < 4)
    (fresh : ∀ x ∈ (s.port p).queue, x.tag ≠ e.tag) (range : e.cmd.inIssueRange = true) :
    Move s p ((s.port p).queue ++ [e]) (s.own p)
  /-- An ABORT removes the QUEUED entry of a tag (R75). -/
  | withdrawn {tag : Byte} {e : Entry} (found : (s.port p).queue.find? (fun e => decide (e.tag = tag)) = some e)
    (queued : e.active = none) :
    Move s p ((s.port p).queue.eraseP fun e => decide (e.tag = tag)) (s.own p)
  /-- The oldest entry becomes ACTIVE (R64). -/
  | starts {e : Entry} {rest : List Entry} {pr : Progress} (may : s.mayStart p = true)
    (queue : (s.port p).queue = e :: rest) (runs : s.startOutcome p e.cmd = .runs pr) :
    Move s p ({ e with active := some { progress := pr, abortPending := false } } :: rest) (s.own p)
  /-- The oldest entry ends at its start (R66). -/
  | fails (may : s.mayStart p = true) : Move s p (s.port p).queue.tail (s.own p)
  /-- The ACTIVE entry goes on. -/
  | goes {e : Entry} {a b : Active} {own : Option Segment} (active : (s.port p).activeEntry = some (e, a))
    (goes : s.Goes p e a b own) : Move s p ({ e with active := some b } :: (s.port p).queue.tail) own
  /-- The table segment goes on with its next operation (R26). -/
  | goesOn {g : Segment} {w : Work} (own : s.own p = some g) (before : g.work.ofTable = true)
    (after : w.ofTable = true) : Move s p (s.port p).queue (some { g with work := w })
  /-- The ACTIVE entry ends, with no segment of it left in flight (R67). -/
  | ends : Move s p (s.port p).queue.tail none
  /-- A reset clears the queue (R182, R183). -/
  | cleared : Move s p [] none
  /-- A segment ends whose command is not that of the ACTIVE entry. -/
  | lost {g : Segment} (own : s.own p = some g)
    (stranger : ∀ e a, (s.port p).activeEntry = some (e, a) → e.cmd = g.cmd → e.cmd.keeps a.progress = false) :
    Move s p (s.port p).queue none
  /-- The release of RESET begins the load, whatever is in flight (R183). -/
  | reloads (line : s.resetLine = true) : Move s p (s.port p).queue none

/-- A segment in flight after a step: one that was in flight before, of the same command and with the same work or the
next one of a table segment (R26), or one that has just been granted. -/
inductive State.Carries (s : State) (g' : Segment) : Prop
  | kept {g : Segment} (flight : s.inFlight = some (.segment g)) (cmd : g'.cmd = g.cmd) (work : g'.work = g.work)
  | goesOn {g : Segment} (flight : s.inFlight = some (.segment g)) (cmd : g'.cmd = g.cmd)
    (before : g.work.ofTable = true) (after : g'.work.ofTable = true)
  | granted {p : Port} {e : Entry} {a : Active} {w : Work} (next : s.nextWork p = some (e, a, w))
    (cmd : g'.cmd = e.cmd) (work : g'.work = w)

/-- What a step does to the ports' queues and to the segment in flight. -/
structure State.Moves (s t : State) : Prop where
  port : ∀ p, s.Move p (t.port p).queue (t.own p)
  flight : ∀ g, t.inFlight = some (.segment g) → s.Carries g

/-- The same at the ports other than `p`. -/
structure State.MovesBeside (s t : State) (p : Port) : Prop where
  port : ∀ q, q ≠ p → s.Move q (t.port q).queue (t.own q)
  flight : ∀ g, t.inFlight = some (.segment g) → s.Carries g

/-- From `s` to `t` the queues and the operation in flight stay. -/
structure State.SameQueues (s t : State) : Prop where
  inFlight : t.inFlight = s.inFlight
  queue : ∀ p, (t.port p).queue = (s.port p).queue

theorem State.SameQueues.refl (s : State) : s.SameQueues s := ⟨rfl, fun _ => rfl⟩

theorem State.SameQueues.trans {s t u : State} (h : s.SameQueues t) (k : t.SameQueues u) : s.SameQueues u :=
  ⟨k.inFlight.trans h.inFlight, fun p => (k.queue p).trans (h.queue p)⟩

theorem State.sameQueues_settle (s : State) : s.SameQueues s.settle := ⟨s.inFlight_settle, s.queue_settle⟩

/-- The table state, the hold, the open sets and one port unit beside its queue change. -/
theorem State.sameQueues_updPort_with (s : State) (tableState : TableState) (held : Bool)
    (openSets : PerIndex PortSet) {p : Port} {f : PortUnit → PortUnit}
    (h : (f (s.port p)).queue = (s.port p).queue) :
    s.SameQueues ({ s with tableState := tableState, held := held, openSets := openSets }.updPort p f) := by
  refine ⟨rfl, fun q => ?_⟩
  show ((s.updPort p f).port q).queue = _
  by_cases here : q = p
  · subst here
    rwa [State.port_updPort_same]
  · rw [State.port_updPort_of_ne _ _ here]

theorem State.sameQueues_updPort (s : State) {p : Port} {f : PortUnit → PortUnit}
    (h : (f (s.port p)).queue = (s.port p).queue) : s.SameQueues (s.updPort p f) :=
  s.sameQueues_updPort_with s.tableState s.held s.openSets h

theorem State.sameQueues_answer_with (s : State) (tableState : TableState) (held : Bool)
    (openSets : PerIndex PortSet) (p : Port) (ws : Vector Word 8) :
    s.SameQueues ({ s with tableState := tableState, held := held, openSets := openSets }.answer p ws) :=
  s.sameQueues_updPort_with _ _ _ rfl

theorem State.sameQueues_answer (s : State) (p : Port) (ws : Vector Word 8) : s.SameQueues (s.answer p ws) :=
  s.sameQueues_updPort rfl

theorem State.sameQueues_leaveTableState (s : State) (cmd : QueuedCommand) : s.SameQueues (s.leaveTableState cmd) :=
  ⟨(s.sameCourse_leaveTableState cmd).inFlight, fun p => by rw [State.port_leaveTableState]⟩

theorem State.sameQueues_enterTableState (s : State) (p : Port) (cmd : QueuedCommand) :
    s.SameQueues (s.enterTableState p cmd) :=
  ⟨(s.sameCourse_enterTableState p cmd).inFlight, fun q => by rw [State.port_enterTableState]⟩

theorem State.sameQueues_openIfMatched (s : State) (p : Port) (cmd : QueuedCommand) (st : Status) :
    s.SameQueues (s.openIfMatched p cmd st) := by
  unfold State.openIfMatched
  repeat' split
  all_goals exact ⟨rfl, fun _ => rfl⟩

/-! ### Moves, put together -/

theorem State.Moves.of_sameQueues {s t u : State} (m : s.Moves t) (h : t.SameQueues u) : s.Moves u where
  port p := by
    rw [h.queue, State.own_congr h.inFlight]
    exact m.port p
  flight g flight := m.flight g (h.inFlight ▸ flight)

theorem State.Moves.refl (s : State) : s.Moves s :=
  ⟨fun _ => .stays, fun _ flight => .kept flight rfl rfl⟩

theorem State.SameQueues.moves {s t : State} (h : s.SameQueues t) : s.Moves t := .of_sameQueues (.refl s) h

theorem State.Moves.settle {s t : State} (m : s.Moves t) : s.Moves t.settle := m.of_sameQueues t.sameQueues_settle

theorem State.MovesBeside.of_sameQueues {s t u : State} {p : Port} (m : s.MovesBeside t p) (h : t.SameQueues u) :
    s.MovesBeside u p where
  port q other := by
    rw [h.queue, State.own_congr h.inFlight]
    exact m.port q other
  flight g flight := m.flight g (h.inFlight ▸ flight)

theorem State.SameQueues.movesBeside {s t : State} (h : s.SameQueues t) (p : Port) : s.MovesBeside t p :=
  ⟨fun q _ => h.moves.port q, h.moves.flight⟩

theorem State.MovesBeside.moves {s t : State} {p : Port} (m : s.MovesBeside t p)
    (here : s.Move p (t.port p).queue (t.own p)) : s.Moves t where
  port q := by
    by_cases h : q = p
    · exact h ▸ here
    · exact m.port q h
  flight := m.flight

/-- A port unit changes; at the other ports nothing moves. -/
theorem State.MovesBeside.updPort {s t : State} {p : Port} (m : s.MovesBeside t p) (f : PortUnit → PortUnit) :
    s.MovesBeside (t.updPort p f) p where
  port q other := by
    rw [State.port_updPort_of_ne _ _ other, State.own_congr (t.inFlight_updPort p f)]
    exact m.port q other
  flight := m.flight

theorem State.movesBeside_updPort (s : State) (p : Port) (f : PortUnit → PortUnit) : s.MovesBeside (s.updPort p f) p :=
  ((State.SameQueues.refl s).movesBeside p).updPort f

theorem State.moves_updPort {s : State} {p : Port} {f : PortUnit → PortUnit}
    (h : s.Move p (f (s.port p)).queue (s.own p)) : s.Moves (s.updPort p f) := by
  refine (s.movesBeside_updPort p f).moves ?_
  rwa [State.port_updPort_same, State.own_congr (s.inFlight_updPort p f)]

/-- The end of an ACTIVE entry takes the oldest entry out of the queue. -/
theorem State.queue_finish {s : State} {p : Port} {e : Entry} {a : Active}
    (active : (s.port p).activeEntry = some (e, a)) (st : Status) :
    ((s.finish p st).port p).queue = (s.port p).queue.tail := by
  rw [State.finish_of_active st active, State.port_setPort_same]

/-- The ACTIVE entry ends, after changes that leave the entries behind it. -/
theorem State.MovesBeside.finish {s t : State} {p : Port} (m : s.MovesBeside t p) {e : Entry} {a : Active}
    (active : (t.port p).activeEntry = some (e, a)) (tail : (t.port p).queue.tail = (s.port p).queue.tail)
    (idle : t.own p = none) (st : Status) : s.Moves (t.finish p st) := by
  have own : ∀ q, (t.finish p st).own q = t.own q := State.own_congr (t.inFlight_finish p st)
  have beside : s.MovesBeside (t.finish p st) p :=
    ⟨fun q other => by
        rw [State.port_finish_of_ne _ _ other, own]
        exact m.port q other,
      fun g flight => m.flight g ((t.inFlight_finish p st) ▸ flight)⟩
  refine beside.moves ?_
  rw [State.queue_finish active, own, idle, tail]
  exact .ends

/-- The ACTIVE entry, if there is one, ends with no segment of it in flight. -/
theorem State.moves_finish {s : State} {p : Port} (idle : s.own p = none) (st : Status) : s.Moves (s.finish p st) := by
  cases active : (s.port p).activeEntry with
  | none =>
    rw [State.finish_of_idle st active]
    exact .refl s
  | some x => exact ((State.SameQueues.refl s).movesBeside p).finish active rfl idle st

/-- The operation in flight has ended; at the ports other than its segment's nothing moves. -/
theorem State.movesBeside_landed {s t : State} {g : Segment} (flight : s.inFlight = some (.segment g))
    (landed : t.inFlight = none) (queue : ∀ q, q ≠ g.port → (t.port q).queue = (s.port q).queue) :
    s.MovesBeside t g.port where
  port q other := by
    rw [queue q other, State.own_of_idle landed]
    have none := State.own_of_other flight (.inl other)
    exact none ▸ .stays
  flight g' flight' := by simp [landed] at flight'

/-- The segment of an entry that a port reset removed has ended: its port's queue is not concerned (R73). -/
theorem State.moves_removed {s t : State} {g : Segment} (flight : s.inFlight = some (.segment g))
    (removed : g.removed = true) (landed : t.inFlight = none) (queue : ∀ q, (t.port q).queue = (s.port q).queue) :
    s.Moves t := by
  refine (State.movesBeside_landed flight landed fun q _ => queue q).moves ?_
  rw [queue, State.own_of_idle landed]
  have none := State.own_of_other flight (q := g.port) (.inr removed)
  exact none ▸ .stays

end Sys2Proof.Machine

namespace Sys2Proof.Machine

/-! ### Accesses of the window and the queues -/

theorem State.moves_issueQueued (s : State) (p : Port) (tag : Byte) {given : PortUnit → Option QueuedCommand}
    (range : GivesInRange given) : s.Moves (s.issueQueued p tag given) := by
  refine State.moves_updPort ?_
  unfold PortUnit.issueQueued
  split
  · exact .stays
  rename_i room
  split
  · exact .stays
  rename_i fresh
  split
  · exact .stays
  · rename_i cmd gives
    refine .joins (e := { tag := tag, cmd := cmd, active := none }) rfl (Nat.lt_of_not_le room) (fun x mem same => ?_)
      (range _ _ gives)
    exact fresh (List.any_eq_true.mpr ⟨x, mem, decide_eq_true same⟩)

theorem State.sameQueues_claim (s : State) (p : Port) : s.SameQueues (s.claim p) := by
  unfold State.claim
  dsimp only
  repeat' split
  all_goals exact s.sameQueues_answer_with _ _ _ p _

theorem State.sameQueues_discard (s : State) (p : Port) : s.SameQueues (s.discard p) := by
  unfold State.discard
  repeat' split
  all_goals exact s.sameQueues_answer_with _ _ _ p _

theorem State.sameQueues_edit (s : State) (p : Port) (f : Table → Nat ⊕ Table) : s.SameQueues (s.edit p f) := by
  unfold State.edit
  repeat' split
  all_goals exact s.sameQueues_answer_with _ _ _ p _

theorem State.sameQueues_takeHold (s : State) (p : Port) : s.SameQueues (s.takeHold p) := by
  unfold State.takeHold
  repeat' split
  all_goals exact s.sameQueues_answer_with _ _ _ p _

theorem State.sameQueues_close (s : State) (p : Port) : s.SameQueues (s.close p) := by
  unfold State.close
  repeat' split
  all_goals exact s.sameQueues_answer_with _ _ _ p _

theorem State.sameQueues_watch (s : State) (p : Port) : s.SameQueues (s.watch p) := by
  unfold State.watch
  repeat' split
  all_goals exact s.sameQueues_updPort rfl

theorem State.sameQueues_info (s : State) (p : Port) : s.SameQueues (s.info p) := by
  unfold State.info
  dsimp only
  repeat' split
  all_goals exact s.sameQueues_answer p _

theorem State.sameQueues_intervalChanged (s : State) (old : Nat) : s.SameQueues (s.intervalChanged old) := by
  unfold State.intervalChanged
  split <;> exact ⟨rfl, fun _ => rfl⟩

theorem State.sameQueues_setup (s : State) (p : Port) : s.SameQueues (s.setup p) := by
  unfold State.setup
  dsimp only
  repeat' split
  · refine .trans ?_ (State.sameQueues_settle _)
    exact (s.sameQueues_updPort rfl).trans (State.sameQueues_intervalChanged _ _)
  all_goals exact s.sameQueues_answer p _

theorem State.sameQueues_refuseData (s : State) (p : Port) : s.SameQueues (s.refuseData p) := s.sameQueues_updPort rfl

theorem State.sameQueues_output (s : State) (p : Port) (w : Word) : s.SameQueues (s.output p w) :=
  s.sameQueues_updPort rfl

theorem State.sameQueues_emptyRead (s : State) (p : Port) : s.SameQueues (s.emptyRead p) :=
  (s.sameQueues_refuseData p).trans (State.sameQueues_output _ p 0)

theorem State.sameQueues_dataWrite (s : State) (p : Port) (w : Word) : s.SameQueues (s.dataWrite p w) := by
  have refused := s.sameQueues_refuseData p
  unfold State.dataWrite
  split
  · exact refused
  split
  · split
    · split
      · exact (s.sameQueues_updPort (PortUnit.queue_fill _ w)).trans (State.sameQueues_settle _)
      split
      · exact State.SameQueues.trans (s.sameQueues_updPort rfl) (State.sameQueues_settle _)
      · exact refused
    · exact refused
  all_goals exact refused

theorem State.sameQueues_paramWrite (s : State) (p : Port) (loc : Nat) (w : Word) :
    s.SameQueues (s.paramWrite p loc w) := by
  unfold State.paramWrite
  split
  · exact s.sameQueues_updPort rfl
  · exact .refl s

theorem PortUnit.activeEntry_congr {u v : PortUnit} (h : v.queue = u.queue) : v.activeEntry = u.activeEntry := by
  unfold PortUnit.activeEntry
  rw [h]

/-- New progress at the head of the queue, after a change beside the queue. -/
theorem PortUnit.queue_setProgress {u v : PortUnit} {e : Entry} {a : Active} (active : u.activeEntry = some (e, a))
    (same : v.queue = u.queue) (pr : Progress) :
    (v.setProgress pr).queue = { e with active := some { a with progress := pr } } :: u.queue.tail := by
  rw [PortUnit.setProgress_of_active ((PortUnit.activeEntry_congr same).trans active), same]

theorem PortUnit.queue_setActive {u : PortUnit} {e : Entry} {a : Active} (active : u.activeEntry = some (e, a))
    (b : Active) : (u.setActive b).queue = { e with active := some b } :: u.queue.tail := by
  obtain ⟨queue, -⟩ := PortUnit.queue_of_activeEntry active
  unfold PortUnit.setActive
  rw [queue]
  rfl

/-- An ACTIVE entry that is put back as it is. -/
theorem PortUnit.queue_eq_of_active {u : PortUnit} {e : Entry} {a : Active} (active : u.activeEntry = some (e, a)) :
    u.queue = { e with active := some a } :: u.queue.tail := by
  obtain ⟨queue, started⟩ := PortUnit.queue_of_activeEntry active
  rw [← started]
  exact queue

/-- A READ whose segment is not in flight completes, or stays as it is (R113). -/
theorem State.moves_completeRead {s t : State} {p : Port} (m : s.MovesBeside t p)
    (tail : (t.port p).queue.tail = (s.port p).queue.tail)
    (here : s.Move p (t.port p).queue (t.own p)) : s.Moves (t.completeRead p) := by
  unfold State.completeRead
  split
  · exact m.moves here
  rename_i e a active
  split
  · split
    · rename_i done
      simp only [Bool.and_eq_true, Bool.not_eq_true'] at done
      exact m.finish active tail (State.own_of_not_ownSegment done.1.2) _
    · exact m.moves here
  · exact m.moves here

/-- The queue after a word of the oldest buffer has been taken: the ACTIVE READ may count a sector (R97, R112). -/
theorem PortUnit.queue_drain {u : PortUnit} {e : Entry} {a : Active} (active : u.activeEntry = some (e, a)) (b : Buffer)
    (rest : List Buffer) {r : ReadProgress} (progress : a.progress = .read r) :
    ∃ done met, (u.drain b rest r).queue =
      { e with active := some { a with progress := .read { r with sectorsDone := done, blankMet := met } } } ::
        u.queue.tail := by
  unfold PortUnit.drain
  split
  · refine ⟨_, _, PortUnit.queue_setProgress active ?_ _⟩
    rfl
  · refine ⟨r.sectorsDone, r.blankMet, ?_⟩
    rw [← progress]
    exact PortUnit.queue_eq_of_active active

theorem State.moves_dataRead (s : State) (p : Port) : s.Moves (s.dataRead p) := by
  have empty := (s.sameQueues_emptyRead p).moves
  unfold State.dataRead
  split
  · exact empty
  rename_i e a active
  split
  · rename_i r cmd progress
    split
    · exact empty
    split
    · exact empty
    rename_i b rest _
    split
    · have output := s.sameQueues_output p (b.wordAt (s.port p).offset)
      have active' : ((s.output p (b.wordAt (s.port p).offset)).port p).activeEntry = some (e, a) := by
        rw [State.output, State.port_updPort_same]
        exact active
      obtain ⟨done, met, queue⟩ := PortUnit.queue_drain active' b rest progress
      rw [output.queue] at queue
      refine (State.moves_completeRead ((output.movesBeside p).updPort _) ?_ ?_).settle
      · rw [State.port_updPort_same, queue, List.tail_cons]
      · rw [State.port_updPort_same, queue]
        exact .goes active (.drained progress done met)
    · exact empty
  · exact empty

/-- The entry that carries the tag is removed while QUEUED, ended or made abort pending while ACTIVE (R75 to R77). -/
theorem State.moves_abort {s : State} {p : Port} (behind : (s.port p).QueuedBehind) : s.Moves (s.abort p) := by
  unfold State.abort
  split
  · exact (s.sameQueues_answer p _).moves
  split
  · exact (s.sameQueues_answer p _).moves
  rename_i e found
  split
  · rename_i queued
    exact (State.moves_updPort (.withdrawn found queued)).of_sameQueues (State.sameQueues_answer _ p _)
  · rename_i a started
    have active := PortUnit.activeEntry_of_found behind (List.mem_of_find?_eq_some found) started
    refine State.Moves.settle (.of_sameQueues ?_ (State.sameQueues_answer _ p _))
    unfold State.abortActive
    split
    · rename_i own
      rw [State.ownSegment_eq, Option.isSome_iff_exists] at own
      obtain ⟨g, own⟩ := own
      refine State.moves_updPort ?_
      rw [PortUnit.queue_setActive active, own]
      exact .goes active (.abort own)
    · rename_i own
      exact (State.moves_finish (State.own_of_not_ownSegment (by simpa using own)) _).of_sameQueues
        (State.sameQueues_leaveTableState _ _)

/-- What an access of a window does to the queues. -/
theorem State.WindowEffect.moves {s t : State} {p : Port} (behind : ∀ p, (s.port p).QueuedBehind)
    (e : s.WindowEffect p t) : s.Moves t := by
  cases e with
  | nothing => exact .refl s
  | issueQueued tag range => exact s.moves_issueQueued p tag range
  | claim => exact (s.sameQueues_claim p).moves
  | discard => exact (s.sameQueues_discard p).moves
  | define | delete | resize | modify => exact (s.sameQueues_edit p _).moves
  | close => exact (s.sameQueues_close p).moves
  | hold => exact (s.sameQueues_takeHold p).moves
  | abort => exact State.moves_abort (behind p)
  | pop => exact (s.sameQueues_updPort (PortUnit.queue_pop _)).moves
  | watch => exact (s.sameQueues_watch p).moves
  | info => exact (s.sameQueues_info p).moves
  | setup => exact (s.sameQueues_setup p).moves
  | dataWrite w => exact (s.sameQueues_dataWrite p w).moves
  | dataRead => exact s.moves_dataRead p
  | paramWrite loc w => exact (s.sameQueues_paramWrite p loc w).moves
  | badCommand => exact (s.sameQueues_answer p _).moves
  | output w => exact (s.sameQueues_output p w).moves
  | stageKey | notices | eventsWrite w | enableWrite w =>
    refine State.SameQueues.moves (s.sameQueues_updPort ?_)
    rfl

/-! ### Starts, grants, expiries and time -/

theorem State.moves_commandStart (s : State) (p : Port) : s.Moves (s.commandStart p) := by
  unfold State.commandStart
  split
  · rename_i may
    split
    · exact .refl s
    rename_i e rest queue
    split
    · refine State.Moves.settle (.of_sameQueues (State.moves_updPort ?_) (State.sameQueues_openIfMatched _ p _ _))
      exact .fails may
    · rename_i pr runs
      refine State.Moves.settle (.of_sameQueues (State.moves_updPort ?_) (State.sameQueues_enterTableState _ p _))
      simp only [queue, List.tail_cons]
      exact .starts may queue runs
  · exact .refl s

/-- The queue after the grant of a segment: the ACTIVE entry's next sector or block has risen, or its table segment is no
longer due. -/
theorem PortUnit.queue_mount {u : PortUnit} {e : Entry} {a : Active} (active : u.activeEntry = some (e, a)) :
    (u.mount a.progress).queue =
      { e with active := some { a with progress := a.progress.granted } } :: u.queue.tail := by
  cases progress : a.progress with
  | read r => exact PortUnit.queue_setProgress (v := u.takeBuffer _) active rfl _
  | write w =>
    have stays : (u.mount (.write w)).queue = u.queue := by
      unfold PortUnit.mount
      dsimp only
      split <;> rfl
    rw [stays, Progress.granted, ← progress]
    exact PortUnit.queue_eq_of_active active
  | _ => exact PortUnit.queue_setProgress active rfl _

/-- A table fault ends the owner, if it is still in its queue (R28, R54). -/
theorem State.MovesBeside.tableFault {s t : State} {p : Port} (m : s.MovesBeside t p) (idle : t.own p = none)
    (same : (t.port p).queue = (s.port p).queue)
    (gone : (s.port p).activeEntry = none → s.Move p (s.port p).queue none) (cmd : QueuedCommand) :
    s.Moves (t.tableFault p cmd false) := by
  have left := t.sameQueues_leaveTableState cmd
  have own : (t.leaveTableState cmd).own p = none := (State.own_congr left.inFlight p).trans idle
  have queue := (left.queue p).trans same
  show s.Moves ((t.leaveTableState cmd).finish p .commitFault)
  cases active : (s.port p).activeEntry with
  | none =>
    rw [State.finish_of_idle _ ((PortUnit.activeEntry_congr queue).trans active)]
    refine (m.of_sameQueues left).moves ?_
    rw [own, queue]
    exact gone active
  | some x =>
    exact (m.of_sameQueues left).finish ((PortUnit.activeEntry_congr queue).trans active) (congrArg List.tail queue)
      own _

theorem State.moves_grant {s : State} (may : s.mayGrant = true) {p : Port} {e : Entry} {a : Active} {w : Work}
    (work : s.nextWork p = some (e, a, w)) : s.Moves (s.grant p e a w) := by
  obtain ⟨active, -, -⟩ := State.nextWork_eq_some work
  obtain ⟨idle, -, -⟩ := s.mayGrant_iff.mp may
  unfold State.grant
  split
  · have same : s.SameQueues { s with lastGranted := p, standbyTimer := none } := ⟨rfl, fun _ => rfl⟩
    refine (State.MovesBeside.tableFault (same.movesBeside p) (State.own_of_idle idle p) rfl (fun none => ?_) _).settle
    simp [active] at none
  · refine State.Moves.settle (State.MovesBeside.moves (p := p) ?_ ?_)
    · refine State.MovesBeside.updPort ⟨fun q other => ?_, fun g flight => ?_⟩ _
      · have none := State.own_of_idle idle q
        rw [State.own_of_other rfl (.inl other)]
        exact none ▸ .stays
      · cases flight
        exact .granted work rfl rfl
    · rw [State.port_updPort_same, State.own_of_flight (g := { port := p, cmd := e.cmd, removed := false, work := w }) rfl rfl]
      show s.Move p ((s.port p).mount a.progress).queue _
      rw [PortUnit.queue_mount active]
      exact .goes active (.granted work)

theorem State.moves_standbyExpiry (s : State) : s.Moves s.standbyExpiry := by
  unfold State.standbyExpiry
  split
  · refine State.Moves.settle (State.SameQueues.moves ⟨rfl, fun _ => rfl⟩)
  · exact .refl s

theorem State.moves_wakeEnd (s : State) : s.Moves s.wakeEnd := by
  unfold State.wakeEnd
  split
  · exact State.Moves.settle (State.SameQueues.moves ⟨rfl, fun _ => rfl⟩)
  · exact .refl s

theorem State.moves_leaseExpiry (s : State) : s.Moves s.leaseExpiry := by
  unfold State.leaseExpiry State.loseClaim
  repeat' split
  · exact (s.sameQueues_updPort_with _ _ _ rfl).moves
  all_goals exact .refl s

theorem State.own_of_waitsOnData {s : State} {p : Port} (h : s.waitsOnData p = true) : s.own p = none := by
  unfold State.waitsOnData at h
  split at h
  · cases h
  · simp only [Bool.and_eq_true, Bool.not_eq_true'] at h
    exact State.own_of_not_ownSegment h.1

/-- A stall timer expires only while no segment of the ACTIVE command is in flight (R80, R82). -/
theorem State.moves_stallExpiry (s : State) (p : Port) : s.Moves (s.stallExpiry p) := by
  unfold State.stallExpiry
  split
  · rename_i due
    obtain ⟨_, -, -, waits⟩ := (s.stallDue_iff p).mp due
    exact (State.moves_finish (State.own_of_waitsOnData waits) _).settle
  · exact .refl s

theorem State.moves_tick (s : State) : s.Moves s.tick :=
  State.SameQueues.moves ⟨rfl, fun p => by rw [State.port_tick]⟩

end Sys2Proof.Machine

namespace Sys2Proof.Machine

/-! ### The ends of the array's operations -/

/-- No segment is in flight before or after, and the queues stay. -/
theorem State.moves_of_no_segment {s t : State} (before : ∀ g, s.inFlight ≠ some (.segment g))
    (after : ∀ g, t.inFlight ≠ some (.segment g)) (queue : ∀ p, (t.port p).queue = (s.port p).queue) : s.Moves t where
  port p := by
    have none := State.own_of_no_segment before p
    rw [queue, State.own_of_no_segment after]
    exact none ▸ .stays
  flight g flight := absurd flight (after g)

/-- A segment ends without an ACTIVE entry of its kind at its port. -/
theorem State.moves_lost {s t : State} {g : Segment} (flight : s.inFlight = some (.segment g))
    (owned : g.removed = false) (landed : t.inFlight = none) (queue : ∀ q, (t.port q).queue = (s.port q).queue)
    (stranger : ∀ e a, (s.port g.port).activeEntry = some (e, a) → e.cmd = g.cmd → e.cmd.keeps a.progress = false) :
    s.Moves t := by
  refine (State.movesBeside_landed flight landed fun q _ => queue q).moves ?_
  rw [queue, State.own_of_idle landed]
  exact .lost (State.own_of_flight flight owned) stranger

/-- The operation in flight, which was of the ACTIVE entry `e` that held `a`, has ended, and the entry has the progress
`pr`. -/
structure State.Reported (s : State) (g : Segment) (e : Entry) (a : Active) (pr : Progress) (t : State) : Prop where
  flight : s.inFlight = some (.segment g)
  owned : g.removed = false
  active : (s.port g.port).activeEntry = some (e, a)
  landed : t.inFlight = none
  others : ∀ q, q ≠ g.port → (t.port q).queue = (s.port q).queue
  queue : (t.port g.port).queue = { e with active := some { a with progress := pr } } :: (s.port g.port).queue.tail

/-- The progress is set in a state in which the operation has ended and no queue has changed. -/
theorem State.Reported.of_updPort {s t : State} {g : Segment} {e : Entry} {a : Active} {pr : Progress}
    (flight : s.inFlight = some (.segment g)) (owned : g.removed = false)
    (active : (s.port g.port).activeEntry = some (e, a)) (landed : t.inFlight = none)
    (same : ∀ q, (t.port q).queue = (s.port q).queue) {f : PortUnit → PortUnit}
    (set : ∀ u, u.activeEntry = some (e, a) →
      (f u).queue = { e with active := some { a with progress := pr } } :: u.queue.tail) :
    s.Reported g e a pr (t.updPort g.port f) where
  flight := flight
  owned := owned
  active := active
  landed := landed
  others q other := by
    rw [State.port_updPort_of_ne _ _ other]
    exact same q
  queue := by
    rw [State.port_updPort_same, set _ ((PortUnit.activeEntry_congr (same g.port)).trans active), same]

theorem State.Reported.movesBeside {s t : State} {g : Segment} {e : Entry} {a : Active} {pr : Progress}
    (h : s.Reported g e a pr t) : s.MovesBeside t g.port := State.movesBeside_landed h.flight h.landed h.others

theorem State.Reported.move {s t : State} {g : Segment} {e : Entry} {a : Active} {pr : Progress}
    (h : s.Reported g e a pr t) (kept : a.abortPending = false) (counts : g.cmd.Counts s.blockCount g.work a.progress pr) :
    s.Move g.port (t.port g.port).queue (t.own g.port) := by
  rw [h.queue, State.own_of_idle h.landed]
  exact .goes h.active (.landed (State.own_of_flight h.flight h.owned) kept counts)

/-- The entry goes on with its new progress. -/
theorem State.Reported.moves {s t : State} {g : Segment} {e : Entry} {a : Active} {pr : Progress}
    (h : s.Reported g e a pr t) (kept : a.abortPending = false) (counts : g.cmd.Counts s.blockCount g.work a.progress pr) :
    s.Moves t := h.movesBeside.moves (h.move kept counts)

/-- The entry ends with its new progress. -/
theorem State.Reported.finish {s t : State} {g : Segment} {e : Entry} {a : Active} {pr : Progress}
    (h : s.Reported g e a pr t) (st : Status) : s.Moves (t.finish g.port st) :=
  h.movesBeside.finish (PortUnit.activeEntry_cons _ _ _ h.queue) (by rw [h.queue, List.tail_cons])
    (State.own_of_idle h.landed _) st

/-! #### READ and CHECK -/

theorem PortUnit.queue_readReport {u : PortUnit} {e : Entry} {a : Active} (active : u.activeEntry = some (e, a))
    (r : ReadProgress) (count : Nat) (report : ReadReport) :
    (u.readReport r count report).queue =
      { e with active := some { a with progress := .read (r.reported count report) } } :: u.queue.tail := by
  cases report with
  | unreadable => exact PortUnit.queue_setProgress (v := u.dropInArray) active rfl _
  | _ => exact PortUnit.queue_setProgress (v := { u with transfers := u.transfers.map _ }) active rfl _

/-- The stranger of a segment: progress that is not of its command's kind. -/
theorem stranger_of_progress {g : Segment} {u : PortUnit} {e : Entry} {a : Active}
    (active : u.activeEntry = some (e, a)) (other : g.cmd.keeps a.progress = false) :
    ∀ e a, u.activeEntry = some (e, a) → e.cmd = g.cmd → e.cmd.keeps a.progress = false := by
  intro e' a' active' same
  cases active.symm.trans active'
  rwa [same]

theorem State.moves_readEnd {s : State} {g : Segment} (flight : s.inFlight = some (.segment g)) {i : Index}
    {start count : Nat} (cmd : g.cmd = .read i start count) (report : ReadReport) :
    s.Moves (s.readEnd g count report) := by
  unfold State.readEnd
  cases owned : g.removed with
  | true => exact State.moves_removed flight owned rfl (s.landed.sameQueues_updPort rfl).queue
  | false =>
    rw [if_neg Bool.false_ne_true]
    split
    · rename_i idle
      exact State.moves_lost flight owned rfl (fun _ => rfl) (by simp [idle])
    rename_i e a active
    split
    · rename_i r progress
      have reported : s.Reported g e a (.read (r.reported count report))
          (s.landed.updPort g.port fun u => u.readReport r count report) :=
        .of_updPort (t := s.landed) flight owned active rfl (fun _ => rfl) fun u active => u.queue_readReport active r count report
      have counts : g.cmd.Counts s.blockCount g.work a.progress (.read (r.reported count report)) := by
        rw [cmd, progress]
        exact .reported report
      dsimp only
      split
      · exact reported.finish _
      · rename_i kept
        exact State.moves_completeRead reported.movesBeside (by rw [reported.queue, List.tail_cons])
          (reported.move (by simpa using kept) counts)
    · rename_i other
      refine State.moves_lost flight owned rfl (fun _ => rfl) (stranger_of_progress active ?_)
      rw [cmd]
      cases progress : a.progress with
      | read r => exact absurd progress (other r)
      | _ => rfl

theorem State.moves_checkEnd {s : State} {g : Segment} (flight : s.inFlight = some (.segment g)) {i : Index}
    {start count : Nat} (cmd : g.cmd = .check i start count) (report : ReadReport) :
    s.Moves (s.checkEnd g count report) := by
  unfold State.checkEnd
  cases owned : g.removed with
  | true => exact State.moves_removed flight owned rfl fun _ => rfl
  | false =>
    rw [if_neg Bool.false_ne_true]
    split
    · rename_i idle
      exact State.moves_lost flight owned rfl (fun _ => rfl) (by simp [idle])
    rename_i e a active
    split
    · rename_i c progress
      have reported : s.Reported g e a (.check (c.counted report))
          (s.landed.updPort g.port fun u => u.setProgress (.check (c.counted report))) :=
        .of_updPort (t := s.landed) flight owned active rfl (fun _ => rfl) fun u active => PortUnit.queue_setProgress active rfl _
      dsimp only
      split
      · exact reported.finish _
      rename_i kept
      split
      · exact reported.finish _
      · refine reported.moves (by simpa using kept) ?_
        rw [cmd, progress]
        exact .checked report
    · rename_i other
      refine State.moves_lost flight owned rfl (fun _ => rfl) (stranger_of_progress active ?_)
      rw [cmd]
      cases progress : a.progress with
      | check c => exact absurd progress (other c)
      | _ => rfl

/-! #### WRITE, BLANK and WIPE -/

theorem State.queue_programmed (s : State) (i : Index) (p : Port) (n : Nat) (data : List Byte) (ok : Bool) (q : Port) :
    ((s.programmed i p n data ok).port q).queue = (s.port q).queue := by
  unfold State.programmed
  dsimp only
  split
  · rfl
  · exact State.queue_riseCount _ i p q

theorem State.queue_blanked (s : State) (i : Index) (p : Port) (b : Nat) (q : Port) :
    ((s.blanked i p b).port q).queue = (s.port q).queue := State.queue_riseCount _ i p q

/-- What a report does to a WRITE that is in its queue (R124 to R127). -/
theorem State.moves_writeReport {s t : State} {g : Segment} (flight : s.inFlight = some (.segment g))
    (owned : g.removed = false) {e : Entry} {a : Active} (active : (s.port g.port).activeEntry = some (e, a))
    (landed : t.inFlight = none) (same : ∀ q, (t.port q).queue = (s.port q).queue) {i : Index} {start count : Nat}
    (cmd : g.cmd = .write i start count) {w : WriteProgress} (progress : a.progress = .write w)
    (report : ProgramReport) : s.Moves (t.writeReport g.port count w a.abortPending report) := by
  have stopped : s.Reported g e a (.write { w with failAt := some w.nextSector })
      (t.updPort g.port fun u => u.stoppedAt w) :=
    .of_updPort flight owned active landed same fun u active => PortUnit.queue_setProgress active rfl _
  cases report with
  | written =>
    have reported : s.Reported g e a
        (.write { w with sectorsDone := w.sectorsDone + 1, nextSector := w.nextSector + 1 })
        (t.updPort g.port fun u => u.programmedOne w) :=
      .of_updPort flight owned active landed same fun u active =>
        PortUnit.queue_setProgress (v := { u with transfers := u.transfers.tail }) active rfl _
    unfold State.writeReport
    dsimp only
    split
    · exact reported.finish _
    rename_i kept
    split
    · exact reported.finish _
    · refine reported.moves (by simpa using kept) ?_
      rw [cmd, progress]
      exact .written
  | _ => exact stopped.finish _

theorem State.moves_writeEnd {s : State} {g : Segment} (flight : s.inFlight = some (.segment g)) {i : Index}
    {start count : Nat} (cmd : g.cmd = .write i start count) (n : Nat) (data : List Byte) (ok : Bool) :
    s.Moves (s.writeEnd g i count n data ok) := by
  have landed := s.inFlight_programmed i g.port n data ok
  have same := s.queue_programmed i g.port n data ok
  have port := s.port_programmed i g.port n data ok
  unfold State.writeEnd
  dsimp only
  cases owned : g.removed with
  | true =>
    have dropped := (s.programmed i g.port n data ok).sameQueues_updPort (p := g.port) (f := PortUnit.dropInArray) rfl
    exact State.moves_removed flight owned landed fun q => (dropped.queue q).trans (same q)
  | false =>
    rw [if_neg Bool.false_ne_true, port]
    split
    · rename_i idle
      exact State.moves_lost flight owned landed same (by simp [idle])
    rename_i e a active
    split
    · rename_i w progress
      exact State.moves_writeReport flight owned active landed same cmd progress _
    · rename_i other
      refine State.moves_lost flight owned landed same (stranger_of_progress active ?_)
      rw [cmd]
      cases progress : a.progress with
      | write w => exact absurd progress (other w)
      | _ => rfl

theorem State.moves_blankEnd {s : State} {g : Segment} (flight : s.inFlight = some (.segment g)) {i : Index}
    {first count : Nat} (cmd : g.cmd = .blank i first count) (b : Nat) : s.Moves (s.blankEnd g i count b) := by
  have same := s.queue_blanked i g.port b
  have port := s.port_blanked i g.port b
  unfold State.blankEnd
  dsimp only
  cases owned : g.removed with
  | true => exact State.moves_removed flight owned rfl same
  | false =>
    rw [if_neg Bool.false_ne_true, port]
    split
    · rename_i idle
      exact State.moves_lost flight owned rfl same (by simp [idle])
    rename_i e a active
    split
    · rename_i k progress
      have reported : s.Reported g e a (.blank { k with blocksDone := k.blocksDone + 1 })
          ((s.blanked i g.port b).updPort g.port fun u =>
            u.setProgress (.blank { k with blocksDone := k.blocksDone + 1 })) :=
        .of_updPort flight owned active rfl same fun u active => PortUnit.queue_setProgress active rfl _
      split
      · exact reported.finish _
      rename_i kept
      split
      · exact reported.finish _
      · refine reported.moves (by simpa using kept) ?_
        rw [cmd, progress]
        exact .blanked
    · rename_i other
      refine State.moves_lost flight owned rfl same (stranger_of_progress active ?_)
      rw [cmd]
      cases progress : a.progress with
      | blank k => exact absurd progress (other k)
      | _ => rfl

theorem State.moves_wipeBlockEnd {s : State} {g : Segment} (flight : s.inFlight = some (.segment g)) {i : Index}
    {which : Which} {key : Key} (cmd : g.cmd = .wipe i which key) {b : Nat} (work : g.work = .blankBlock b) :
    s.Moves (s.wipeBlockEnd g i b) := by
  have same := s.queue_blanked i g.port b
  have port := s.port_blanked i g.port b
  unfold State.wipeBlockEnd
  dsimp only
  cases owned : g.removed with
  | true => exact State.moves_removed flight owned rfl same
  | false =>
    rw [if_neg Bool.false_ne_true, port]
    split
    · rename_i idle
      exact State.moves_lost flight owned rfl same (by simp [idle])
    rename_i e a active
    split
    · rename_i k progress
      have reported : s.Reported g e a
          (.wipe { k with blocksDone := k.blocksDone + 1, tableDue := decide (k.blocksDone + 1 = s.blockCount i) })
          ((s.blanked i g.port b).updPort g.port fun u => u.setProgress
            (.wipe { k with blocksDone := k.blocksDone + 1, tableDue := decide (k.blocksDone + 1 = s.blockCount i) })) :=
        .of_updPort flight owned active rfl same fun u active => PortUnit.queue_setProgress active rfl _
      split
      · exact (reported.finish _).of_sameQueues (State.sameQueues_leaveTableState _ _)
      · rename_i kept
        refine reported.moves (by simpa using kept) ?_
        rw [cmd, work, progress]
        exact .wiped
    · rename_i other
      refine State.moves_lost flight owned rfl same (stranger_of_progress active ?_)
      rw [cmd]
      cases progress : a.progress with
      | wipe k => exact absurd progress (other k)
      | _ => rfl

/-! #### The table segment and the load -/

/-- The table segment goes on with its next operation (R26). -/
theorem State.moves_goOn {s : State} {g : Segment} (flight : s.inFlight = some (.segment g)) {w : Work}
    (before : g.work.ofTable = true) (after : w.ofTable = true) (array : Memory) : s.Moves (s.goOn g w array) where
  port p := by
    by_cases other : p ≠ g.port ∨ g.removed = true
    · have none := State.own_of_other flight other
      rw [State.own_of_other (s := s.goOn g w array) rfl other]
      exact none ▸ .stays
    · simp only [not_or, not_not, Bool.not_eq_true] at other
      obtain ⟨rfl, owned⟩ := other
      have own : (s.goOn g w array).own g.port = some { g with work := w } :=
        (State.own_eq_some_iff _ _ _).mpr ⟨rfl, rfl, owned⟩
      rw [own]
      exact .goesOn (State.own_of_flight flight owned) before after
  flight g' flight' := by
    cases flight'
    exact .goesOn flight rfl before after

/-- A table fault at the end of a table segment (R28, R54). -/
theorem State.moves_fault {s : State} {g : Segment} (flight : s.inFlight = some (.segment g)) (array : Memory) :
    s.Moves ({ s.landed with array := array }.tableFault g.port g.cmd g.removed) := by
  cases owned : g.removed with
  | true => exact State.moves_removed flight owned rfl fun _ => rfl
  | false =>
    have beside : s.MovesBeside { s.landed with array := array } g.port :=
      State.movesBeside_landed flight rfl fun _ _ => rfl
    exact beside.tableFault (State.own_of_idle rfl _) rfl
      (fun idle => .lost (State.own_of_flight flight owned) (by simp [idle])) _

theorem State.moves_headerEnd {s : State} {g : Segment} {new : Table} (flight : s.inFlight = some (.segment g))
    (work : g.work = .tableHeader new) (ok : Bool) : s.Moves (s.headerEnd g new ok) := by
  unfold State.headerEnd
  dsimp only
  split
  · exact State.moves_goOn flight (by rw [work]; rfl) rfl _
  · exact (State.moves_fault flight _).settle

/-- At the end of a table segment the ACTIVE commands of R31 end, each at its own port. -/
theorem State.queue_endChanged {s : State} (idle : s.inFlight = none) (g : Segment) (new : Table) (q : Port) :
    ((s.endChanged g new).port q).queue = (s.port q).queue ∨
      ((s.endChanged g new).port q).queue = (s.port q).queue.tail := by
  cases ends : s.endsAtSwitchover g new q with
  | false => exact .inl (by rw [State.port_endChanged_of_kept ends])
  | true =>
    obtain ⟨other, e, a, i, active, acts, differs⟩ := (s.endsAtSwitchover_iff g new q).mp ends
    exact .inr (by rw [State.port_endChanged_of_changed idle other active acts differs])

theorem State.moves_switchover {s : State} {g : Segment} (flight : s.inFlight = some (.segment g)) (array : Memory)
    (new : Table) : s.Moves ({ s.landed with array := array }.switchover g new) := by
  set s1 : State := { s.landed with array := array } with s1_def
  have made : ((s1.endChanged g new).makeLive g new).inFlight = none := (s1.sameCourse_endChanged g new).inFlight
  have landed : (s1.switchover g new).inFlight = none := (s1.sameCourse_switchover g new).inFlight.trans made
  have here : ∀ q, q ≠ g.port ∨ g.removed = true →
      s.Move q ((s1.switchover g new).port q).queue ((s1.switchover g new).own q) := by
    intro q other
    have none := State.own_of_other flight other
    rw [State.port_switchover_of_other other, State.queue_makeLive, State.own_of_idle landed]
    obtain stays | ends := State.queue_endChanged (s := s1) rfl g new q
    · rw [stays]
      exact none ▸ .stays
    · rw [ends]
      exact .ends
  have beside : s.MovesBeside (s1.switchover g new) g.port :=
    ⟨fun q other => here q (.inl other), fun g' flight' => by simp [landed] at flight'⟩
  cases owned : g.removed with
  | true => exact beside.moves (here g.port (.inr owned))
  | false =>
    have kept : s1.endsAtSwitchover g new g.port = false := by
      refine Bool.eq_false_iff.mpr fun ends => ?_
      obtain ⟨other, -⟩ := (State.endsAtSwitchover_iff _ _ _ _).mp ends
      simp [owned] at other
    have queue : (((s1.endChanged g new).makeLive g new).port g.port).queue = (s.port g.port).queue := by
      rw [State.queue_makeLive, State.port_endChanged_of_kept kept]
      rfl
    refine beside.moves ?_
    rw [State.own_of_idle landed, State.switchover_of_owned owned]
    cases active : (s.port g.port).activeEntry with
    | none =>
      rw [State.finish_of_idle _ ((PortUnit.activeEntry_congr queue).trans active), queue]
      exact .lost (State.own_of_flight flight owned) (by simp [active])
    | some x =>
      rw [State.queue_finish ((PortUnit.activeEntry_congr queue).trans active), queue]
      exact .ends

theorem State.moves_recordsEnd {s : State} {g : Segment} (flight : s.inFlight = some (.segment g)) (new : Table)
    (ok : Bool) : s.Moves (s.recordsEnd g new ok) := by
  unfold State.recordsEnd
  dsimp only
  split
  · exact (State.moves_switchover flight _ new).settle
  · exact (State.moves_fault flight _).settle

theorem State.moves_loadEnd {s : State} {got : List ReadReport} (flight : s.inFlight = some (.load got))
    (got' : List ReadReport) : s.Moves (s.loadEnd got') := by
  have before : ∀ g, s.inFlight ≠ some (.segment g) := by simp [flight]
  unfold State.loadEnd
  split
  · exact State.moves_of_no_segment before (by simp) fun _ => rfl
  · refine State.Moves.settle (State.moves_of_no_segment before (by simp [State.loaded, State.landed]) fun p => ?_)
    show PortUnit.queue ((PerPort.mapPorts _ _).get p) = _
    rw [PerPort.get_mapPorts]
    rfl

/-! ### The resets -/

/-- A segment in flight after a port reset is the one before it, removed when it is the reset port's (R73). -/
theorem State.segment_of_clearPort {s : State} {p : Port} {g : Segment}
    (flight : (s.clearPort p).inFlight = some (.segment g)) :
    ∃ h, s.inFlight = some (.segment h) ∧ g = if h.port = p then { h with removed := true } else h := by
  rw [State.inFlight_clearPort] at flight
  obtain ⟨f, before, eq⟩ := Option.map_eq_some_iff.mp flight
  cases f with
  | load got => cases eq
  | segment h => exact ⟨h, before, (InFlight.segment.inj eq).symm⟩

theorem State.own_clearPort_same (s : State) (p : Port) : (s.clearPort p).own p = none := by
  refine Option.eq_none_iff_forall_ne_some.mpr fun g own => ?_
  obtain ⟨flight, port, owned⟩ := (State.own_eq_some_iff _ _ _).mp own
  obtain ⟨h, -, rfl⟩ := State.segment_of_clearPort flight
  split at port
  · rename_i here
    simp [here] at owned
  · rename_i other
    exact other port

theorem State.own_clearPort_of_ne (s : State) {p q : Port} (other : q ≠ p) : (s.clearPort p).own q = s.own q := by
  refine Option.ext fun g => ?_
  rw [State.own_eq_some_iff, State.own_eq_some_iff]
  refine and_congr_left ?_
  rintro ⟨rfl, owned⟩
  constructor
  · intro flight
    obtain ⟨h, before, rfl⟩ := State.segment_of_clearPort flight
    split at owned
    · cases owned
    · rename_i apart
      rwa [if_neg apart]
  · intro flight
    rw [State.inFlight_clearPort, flight]
    simp [InFlight.removeOwner, other]

/-- A port reset leaves the operation in flight, and removes the entry of the port's own segment (R73). -/
theorem State.moves_clearPort (s : State) (p : Port) : s.Moves (s.clearPort p) where
  port q := by
    by_cases here : q = p
    · subst here
      rw [State.queue_clearPort_same, State.own_clearPort_same]
      exact .cleared
    · have same : (s.clearPort p).port q = s.port q := PerPort.get_set_of_ne _ _ here
      rw [same, State.own_clearPort_of_ne s here]
      exact .stays
  flight g flight := by
    obtain ⟨h, before, rfl⟩ := State.segment_of_clearPort flight
    split <;> exact .kept before rfl rfl

theorem State.moves_resetPort (s : State) (p : Port) : s.Moves (s.resetPort p) := by
  unfold State.resetPort
  dsimp only
  refine State.Moves.settle ((s.moves_clearPort p).of_sameQueues (State.sameQueues_updPort _ ?_))
  rfl

/-- A part reset and the supply clear every port (R183). -/
theorem State.moves_of_wiped (s : State) (begun : Bool) {t : State} (ports : t.ports = (s.wiped begun).ports)
    (idle : ∀ g, t.inFlight ≠ some (.segment g)) : s.Moves t where
  port p := by
    have queue : (t.port p).queue = [] := by
      show (t.ports.get p).queue = []
      rw [ports]
      show PortUnit.queue ((PerPort.mapPorts _ _).get p) = []
      rw [PerPort.get_mapPorts]
      rfl
    rw [queue, State.own_of_no_segment idle]
    exact .cleared
  flight g flight := absurd flight (idle g)

theorem State.moves_releaseReset {s : State} (line : s.resetLine = true) : s.Moves s.releaseReset := by
  unfold State.releaseReset
  split
  · have idle : ∀ g, startLoad false ≠ some (.segment g) := startLoad_ne_segment false
    refine ⟨fun p => ?_, fun g flight => absurd flight (idle g)⟩
    rw [State.own_of_no_segment idle]
    exact .reloads line
  · exact State.SameQueues.moves ⟨rfl, fun _ => rfl⟩

/-- What an event does to the queues. -/
theorem State.Event.moves {s t : State} (e : s.Event t) : s.Moves t := by
  cases e with
  | nothing => exact .refl s
  | commandStart p => exact s.moves_commandStart p
  | grant may _ work _ => exact State.moves_grant may work
  | readEnd flight cmd _ => exact (State.moves_readEnd flight cmd _).settle
  | checkEnd flight cmd _ => exact (State.moves_checkEnd flight cmd _).settle
  | writeEnd ok flight cmd _ => exact (State.moves_writeEnd flight cmd _ _ ok).settle
  | blankEnd flight cmd _ => exact (State.moves_blankEnd flight cmd _).settle
  | wipeBlockEnd flight cmd work => exact (State.moves_wipeBlockEnd flight cmd work).settle
  | tableBlankEnd flight work => exact State.moves_goOn flight (by rw [work]; rfl) rfl _
  | headerEnd ok flight work => exact State.moves_headerEnd flight work ok
  | recordsEnd ok flight _ => exact State.moves_recordsEnd flight _ ok
  | loadEnd flight => exact State.moves_loadEnd flight _
  | standbyExpiry => exact s.moves_standbyExpiry
  | wakeEnd => exact s.moves_wakeEnd
  | leaseExpiry => exact s.moves_leaseExpiry
  | stallExpiry p => exact s.moves_stallExpiry p
  | tick => exact s.moves_tick
  | resetPort p _ _ => exact s.moves_resetPort p
  | withPrst p level =>
    refine State.SameQueues.moves (s.sameQueues_updPort ?_)
    rfl
  | partReset begun _ => exact s.moves_of_wiped begun rfl fun g flight => by cases flight
  | partResetUnpowered _ => exact State.SameQueues.moves ⟨rfl, fun _ => rfl⟩
  | releaseReset line => exact State.moves_releaseReset line
  | powerOn begun => exact s.moves_of_wiped begun rfl (startLoad_ne_segment _)
  | powerLoss begun _ => exact s.moves_of_wiped begun rfl fun g flight => by cases flight

end Sys2Proof.Machine

namespace Sys2Proof.Machine

/-! ### The queue law (R60) -/

/-- The queue law, of a queue: at most 4 entries, behind the oldest only QUEUED ones, no two with the same tag. -/
structure QueueLawful (q : List Entry) : Prop where
  length : q.length ≤ 4
  behind : ∀ e ∈ q.tail, e.active = none
  tags : (q.map Entry.tag).Nodup

theorem PortUnit.queueLaw_iff (u : PortUnit) : u.queueLaw = true ↔ QueueLawful u.queue := by
  simp only [PortUnit.queueLaw, Bool.and_eq_true, decide_eq_true_eq, List.all_eq_true, Option.isNone_iff_eq_none]
  exact ⟨fun ⟨⟨length, behind⟩, tags⟩ => ⟨length, behind, tags⟩,
    fun ⟨length, behind, tags⟩ => ⟨⟨length, behind⟩, tags⟩⟩

theorem QueueLawful.tail {q : List Entry} (h : QueueLawful q) : QueueLawful q.tail where
  length := (List.tail_sublist q).length_le.trans h.length
  behind e mem := h.behind e (List.mem_of_mem_tail mem)
  tags := h.tags.sublist ((List.tail_sublist q).map _)

/-- The oldest entry is exchanged for one of the same tag. -/
theorem QueueLawful.head {e f : Entry} {rest : List Entry} (h : QueueLawful (e :: rest)) (same : f.tag = e.tag) :
    QueueLawful (f :: rest) where
  length := h.length
  behind := h.behind
  tags := by
    rw [List.map_cons, same]
    exact h.tags

/-- A QUEUED entry with a tag of its own joins a queue that has room. -/
theorem QueueLawful.join {q : List Entry} (h : QueueLawful q) {e : Entry} (queued : e.active = none)
    (room : q.length < 4) (fresh : ∀ x ∈ q, x.tag ≠ e.tag) : QueueLawful (q ++ [e]) where
  length := by simpa using room
  behind x mem := by
    cases q with
    | nil => simp at mem
    | cons y rest =>
      rw [List.cons_append, List.tail_cons, List.mem_append, List.mem_singleton] at mem
      obtain old | rfl := mem
      · exact h.behind x old
      · exact queued
  tags := by
    rw [List.map_append, List.nodup_append]
    exact ⟨h.tags, List.nodup_singleton _, by simpa using fresh⟩

/-- The entry of a tag leaves the queue. -/
theorem QueueLawful.withdraw {u : PortUnit} (h : QueueLawful u.queue) (tag : Byte) :
    QueueLawful (u.queue.eraseP fun e => decide (e.tag = tag)) where
  length := (List.eraseP_sublist).length_le.trans h.length
  behind := (u.noNewActive_eraseP tag h.behind).1
  tags := h.tags.sublist ((List.eraseP_sublist).map _)

/-- Every move keeps the queue law. -/
theorem State.Move.queueLawful {s : State} {p : Port} {q : List Entry} {own : Option Segment} (m : s.Move p q own)
    (law : QueueLawful (s.port p).queue) : QueueLawful q := by
  cases m with
  | stays | goesOn | lost | reloads => exact law
  | joins queued room fresh _ => exact law.join queued room fresh
  | withdrawn _ _ => exact law.withdraw _
  | starts _ queue _ => exact (queue ▸ law).head rfl
  | fails | ends => exact law.tail
  | goes active _ => exact ((PortUnit.queue_of_activeEntry active).1 ▸ law).head rfl
  | cleared => exact ⟨by simp, by simp, by simp⟩

theorem State.Moves.queueLaw {s t : State} (m : s.Moves t) (law : s.atPorts PortUnit.queueLaw = true) :
    t.atPorts PortUnit.queueLaw = true := by
  rw [State.atPorts_iff] at law ⊢
  exact fun p => (PortUnit.queueLaw_iff _).mpr ((m.port p).queueLawful ((PortUnit.queueLaw_iff _).mp (law p)))

theorem State.queuedBehind_of_queueLaw {s : State} (law : s.atPorts PortUnit.queueLaw = true) (p : Port) :
    (s.port p).QueuedBehind := PortUnit.queuedBehind_of_queueLaw ((s.atPorts_iff _).mp law p)

/-- Settles O7: each access and each event does to a queue no more than `State.Move` says, and no move breaks the law. -/
theorem queueLawIsKept : Obligations.QueueLawIsKept := by
  intro s t law h
  exact step_induction
    (I := fun s => s.atPorts PortUnit.queueLaw = true) (J := fun s => s.atPorts PortUnit.queueLaw = true)
    (fun _ _ h => h) (fun _ _ _ h => h) (fun _ _ _ h => h)
    (fun law e => (e.moves (State.queuedBehind_of_queueLaw law)).queueLaw law) (fun law e => e.moves.queueLaw law) h law

end Sys2Proof.Machine

namespace Sys2Proof.Machine

/-! ### The ACTIVE entry and its segment (R61, R71) -/

/-- The ACTIVE entry of a queue: the oldest entry, when it has started (R60). -/
def activeOf : List Entry → Option (Entry × Active)
  | [] => none
  | e :: _ => e.active.map fun a => (e, a)

theorem PortUnit.activeEntry_eq (u : PortUnit) : u.activeEntry = activeOf u.queue := rfl

theorem activeOf_of_queued {q : List Entry} (h : ∀ e ∈ q, e.active = none) : activeOf q = none := by
  cases q with
  | nil => rfl
  | cons e rest => simp [activeOf, h e List.mem_cons_self]

/-- A QUEUED entry that joins is not the ACTIVE one. -/
theorem activeOf_append (q : List Entry) {e : Entry} (queued : e.active = none) : activeOf (q ++ [e]) = activeOf q := by
  cases q with
  | nil => simp [activeOf, queued]
  | cons x rest => rfl

/-- The removal of a QUEUED entry leaves the ACTIVE one. -/
theorem activeOf_eraseP {q : List Entry} (behind : ∀ e ∈ q.tail, e.active = none) {tag : Byte} {e : Entry}
    (found : q.find? (fun e => decide (e.tag = tag)) = some e) (queued : e.active = none) :
    activeOf (q.eraseP fun e => decide (e.tag = tag)) = activeOf q := by
  cases q with
  | nil => rfl
  | cons x rest =>
    by_cases oldest : x.tag = tag
    · have : x = e := by simpa [oldest] using found
      subst this
      simp only [List.eraseP_cons, oldest, decide_true, cond_true]
      rw [activeOf_of_queued (q := rest) behind, activeOf, queued]
      rfl
    · simp [oldest, activeOf]

/-- The ACTIVE entry and its segment in flight agree: they are of one command, the progress is of the command's own kind,
and an ABORT is pending only while the segment is in flight (R61, R71, R77). -/
structure Owned (active : Option (Entry × Active)) (own : Option Segment) : Prop where
  segment : ∀ g, own = some g → ∃ e a, active = some (e, a) ∧ e.cmd = g.cmd
  entry : ∀ e a, active = some (e, a) → e.cmd.keeps a.progress = true ∧ (a.abortPending = true → own ≠ none)

theorem PortUnit.activeCommand_eq_some_iff (u : PortUnit) (c : QueuedCommand) :
    u.activeCommand = some c ↔ ∃ e a, u.activeEntry = some (e, a) ∧ e.cmd = c := by
  simp [PortUnit.activeCommand]

theorem State.activeLaw_iff (s : State) (p : Port) :
    s.activeLaw p = true ↔ ∀ e a, (s.port p).activeEntry = some (e, a) →
      e.cmd.keeps a.progress = true ∧ (a.abortPending = true → s.own p ≠ none) := by
  unfold State.activeLaw
  split
  · rename_i idle
    simp [idle]
  · rename_i e a active
    simp only [active, Option.some.injEq, Prod.mk.injEq, Bool.and_eq_true, Bool.or_eq_true, Bool.not_eq_true',
      State.ownSegment_eq, Option.isSome_iff_ne_none]
    constructor
    · rintro ⟨keeps, pending⟩ _ _ ⟨rfl, rfl⟩
      exact ⟨keeps, fun set => pending.resolve_left (by simp [set])⟩
    · intro h
      obtain ⟨keeps, pending⟩ := h e a ⟨rfl, rfl⟩
      refine ⟨keeps, ?_⟩
      cases set : a.abortPending with
      | false => exact .inl rfl
      | true => exact .inr (pending set)

theorem State.segmentLaw_iff (s : State) :
    s.segmentLaw = true ↔ ∀ g, s.inFlight = some (.segment g) →
      g.cmd.does g.work = true ∧ (g.removed = false → (s.port g.port).activeCommand = some g.cmd) := by
  unfold State.segmentLaw
  split
  · rename_i g flight
    simp only [flight, Option.some.injEq, InFlight.segment.injEq, Bool.and_eq_true, Bool.or_eq_true, decide_eq_true_eq]
    constructor
    · rintro ⟨does, owner⟩ _ rfl
      exact ⟨does, fun owned => owner.resolve_left (by simp [owned])⟩
    · intro h
      obtain ⟨does, owner⟩ := h g rfl
      refine ⟨does, ?_⟩
      cases owned : g.removed with
      | true => exact .inl rfl
      | false => exact .inr (owner owned)
  · rename_i flight
    simp [flight]
  · rename_i flight
    simp [flight]

/-- The owner law, port by port (R71, R73). -/
theorem State.ownerLaw_iff (s : State) :
    s.ownerLaw = true ↔
      (∀ g, s.inFlight = some (.segment g) → g.cmd.does g.work = true) ∧
        ∀ p, Owned (s.port p).activeEntry (s.own p) := by
  have ports : s.ownerLaw = true ↔ s.segmentLaw = true ∧ ∀ p, s.activeLaw p = true := by
    simp only [State.ownerLaw, Bool.and_eq_true]
    exact ⟨fun ⟨⟨⟨seg, a⟩, b⟩, c⟩ => ⟨seg, fun p => by cases p <;> assumption⟩,
      fun ⟨seg, h⟩ => ⟨⟨⟨seg, h .a⟩, h .b⟩, h .c⟩⟩
  rw [ports, State.segmentLaw_iff]
  constructor
  · rintro ⟨segment, active⟩
    refine ⟨fun g flight => (segment g flight).1, fun p => ⟨fun g own => ?_, (s.activeLaw_iff p).mp (active p)⟩⟩
    obtain ⟨flight, rfl, owned⟩ := (s.own_eq_some_iff p g).mp own
    exact (PortUnit.activeCommand_eq_some_iff _ _).mp ((segment g flight).2 owned)
  · rintro ⟨does, owned⟩
    refine ⟨fun g flight => ⟨does g flight, fun kept => ?_⟩, fun p => (s.activeLaw_iff p).mpr (owned p).entry⟩
    exact (PortUnit.activeCommand_eq_some_iff _ _).mpr ((owned g.port).segment g (State.own_of_flight flight kept))

/-! ### What one step does to the ACTIVE entry and its segment, under the laws -/

/-- The moves of a queue, as the ACTIVE entry and its segment see them. -/
inductive State.ActiveMove (s : State) (p : Port) : Option (Entry × Active) → Option Segment → Prop
  | stays : ActiveMove s p (s.port p).activeEntry (s.own p)
  | goesOn {g : Segment} {w : Work} (own : s.own p = some g) (before : g.work.ofTable = true)
    (after : w.ofTable = true) : ActiveMove s p (s.port p).activeEntry (some { g with work := w })
  | idle : ActiveMove s p none none
  | starts {e : Entry} {a : Active} {pr : Progress} (runs : s.startOutcome p e.cmd = .runs pr)
    (new : a = { progress := pr, abortPending := false }) :
    ActiveMove s p (some ({ e with active := some a }, a)) none
  | goes {e : Entry} {a b : Active} {own : Option Segment} (active : (s.port p).activeEntry = some (e, a))
    (goes : s.Goes p e a b own) : ActiveMove s p (some ({ e with active := some b }, b)) own

/-- Without an ACTIVE entry no segment is the port's own. -/
theorem Owned.idle {own : Option Segment} (h : Owned none own) : own = none := by
  refine Option.eq_none_iff_forall_ne_some.mpr fun g there => ?_
  obtain ⟨e, a, active, -⟩ := h.segment g there
  cases active

theorem State.Move.active {s : State} {p : Port} {q : List Entry} {own : Option Segment} (m : s.Move p q own)
    (behind : (s.port p).QueuedBehind) (law : Owned (s.port p).activeEntry (s.own p))
    (line : s.resetLine = true → s.own p = none) : s.ActiveMove p (activeOf q) own := by
  have idle_of_start : s.mayStart p = true → s.own p = none := by
    intro may
    obtain ⟨-, -, queued, -⟩ := (s.mayStart_iff p).mp may
    rw [PortUnit.activeEntry_eq, activeOf_of_queued queued] at law
    exact law.idle
  cases m with
  | stays => exact .stays
  | joins queued room fresh range =>
    rw [activeOf_append _ queued]
    exact .stays
  | withdrawn found queued =>
    rw [activeOf_eraseP behind found queued]
    exact .stays
  | starts may queue runs =>
    rw [idle_of_start may]
    exact .starts runs rfl
  | fails may =>
    rw [idle_of_start may, activeOf_of_queued behind]
    exact .idle
  | goes active goes => exact .goes active goes
  | goesOn own before after => exact .goesOn own before after
  | ends =>
    rw [activeOf_of_queued behind]
    exact .idle
  | cleared => exact .idle
  | lost own stranger =>
    obtain ⟨e, a, active, same⟩ := law.segment _ own
    have keeps := (law.entry e a active).1
    simp [stranger e a active same] at keeps
  | reloads set =>
    have none := line set
    exact none ▸ .stays

/-! ### The owner law is kept -/

theorem QueuedCommand.keeps_granted (c : QueuedCommand) (pr : Progress) : c.keeps pr.granted = c.keeps pr := by
  cases pr <;> cases c <;> rfl

/-- Counts of sectors delivered are beside the kind of progress. -/
theorem QueuedCommand.keeps_read (c : QueuedCommand) (r r' : ReadProgress) : c.keeps (.read r') = c.keeps (.read r) := by
  cases c <;> rfl

theorem QueuedCommand.Counts.keeps {blocks : Index → Nat} {c : QueuedCommand} {w : Work} {pr pr' : Progress}
    (h : c.Counts blocks w pr pr') : c.keeps pr' = true := by
  cases h <;> rfl

theorem orRuns_eq_runs_iff {c : Option Status} {pr pr' : Progress} :
    orRuns c pr = .runs pr' ↔ c = none ∧ pr' = pr := by
  cases c <;> simp [orRuns, eq_comm]

theorem require_eq_none {cond : Bool} {st : Status} (h : require cond st = none) : cond = true := by
  simpa [require] using h

/-- A data command that becomes ACTIVE fits into its record (R65). -/
theorem State.fits_of_dataChecks {s : State} {p : Port} {i : Index} {x : Partition} {access fits : Bool}
    (h : s.dataChecks p i x access fits = none) : fits = true :=
  require_eq_none (firstFailing_eq_none (firstFailing_eq_none h).2).2

/-- A command that becomes ACTIVE has progress of its own kind; OPEN never becomes ACTIVE (R66). -/
theorem State.keeps_of_runs {s : State} {p : Port} {c : QueuedCommand} {pr : Progress}
    (runs : s.startOutcome p c = .runs pr) : c.keeps pr = true := by
  cases c with
  | commit =>
    obtain ⟨rfl, -⟩ := State.claimed_of_startCommit_runs runs
    rfl
  | openKey i which key =>
    replace runs : s.startOpen p i which key = .runs pr := runs
    unfold State.startOpen at runs
    repeat' split at runs
    all_goals cases runs
  | setRecovery new old =>
    obtain ⟨-, rfl⟩ := orRuns_eq_runs_iff.mp runs
    rfl
  | _ =>
    simp only [State.startOutcome, State.startRead, State.startCheck, State.startWrite, State.startBlank,
      State.startWipe, State.startSetKey, State.startClearKey] at runs
    split at runs
    · cases runs
    · obtain ⟨-, rfl⟩ := orRuns_eq_runs_iff.mp runs
      rfl

theorem QueuedCommand.does_table {c : QueuedCommand} {w w' : Work} (does : c.does w = true)
    (before : w.ofTable = true) (after : w'.ofTable = true) : c.does w' = true := by
  have holds := QueuedCommand.holdsTable_of_does does before
  cases c with
  | commit | setKey | clearKey | setRecovery => exact after
  | wipe => simp [QueuedCommand.does, after]
  | _ => cases holds

/-- The work that an ACTIVE command could be granted is work of that command (R68). -/
theorem State.does_of_workOf {s : State} {p : Port} {e : Entry} {a : Active} {w : Work}
    (work : s.workOf p e a = some w) : e.cmd.does w = true := by
  unfold State.workOf at work
  split at work
  case h_5 cmd _ =>
    rw [cmd]
    repeat' split at work
    all_goals cases work
    all_goals rfl
  case h_10 => cases work
  all_goals
    rename_i cmd _
    rw [cmd]
    repeat' split at work
    all_goals cases work
    all_goals rfl

/-- What an ACTIVE entry goes on with agrees with its segment again. -/
theorem State.Goes.owned {s : State} {p : Port} {e : Entry} {a b : Active} {own : Option Segment}
    (goes : s.Goes p e a b own) (active : (s.port p).activeEntry = some (e, a))
    (law : Owned (s.port p).activeEntry (s.own p)) : Owned (some ({ e with active := some b }, b)) own := by
  obtain ⟨keeps, pending⟩ := law.entry e a active
  have owner : ∀ g, s.own p = some g → e.cmd = g.cmd := by
    intro g own
    obtain ⟨e', a', active', same⟩ := law.segment g own
    cases active.symm.trans active'
    exact same
  have entry : ∀ {b : Active} {own : Option Segment}, e.cmd.keeps b.progress = true →
      (b.abortPending = true → own ≠ none) → (∀ g, own = some g → e.cmd = g.cmd) →
      Owned (some ({ e with active := some b }, b)) own := by
    intro b own keeps pending same
    refine ⟨fun g there => ⟨_, _, rfl, same g there⟩, fun e' a' eq => ?_⟩
    cases eq
    exact ⟨keeps, pending⟩
  cases goes with
  | abort own => exact entry keeps (fun _ => by simp) fun g' there => owner g' (own.trans there)
  | drained progress done met =>
    rw [progress] at keeps
    exact entry ((e.cmd.keeps_read _ _).trans keeps) pending owner
  | granted work =>
    refine entry ((e.cmd.keeps_granted _).trans keeps) (fun _ => by simp) fun g there => ?_
    cases there
    rfl
  | landed own kept counts =>
    refine entry ?_ (fun set => by simp [kept] at set) fun g there => by cases there
    rw [owner _ own]
    exact counts.keeps

theorem State.ActiveMove.owned {s : State} {p : Port} {active : Option (Entry × Active)} {own : Option Segment}
    (m : s.ActiveMove p active own) (law : Owned (s.port p).activeEntry (s.own p)) : Owned active own := by
  cases m with
  | stays => exact law
  | @goesOn g w own _ _ =>
    refine ⟨fun g' there => ?_, fun e a active => ⟨(law.entry e a active).1, fun _ => by simp⟩⟩
    cases there
    exact law.segment g own
  | idle => exact ⟨fun g there => (by cases there), fun e a active => by cases active⟩
  | starts runs new =>
    refine ⟨fun g there => (by cases there), fun e' a' eq => ?_⟩
    cases eq
    subst new
    exact ⟨State.keeps_of_runs runs, fun set => by cases set⟩
  | goes active goes => exact goes.owned active law

/-- While RESET is asserted no segment is in flight (R73, R183). -/
theorem State.own_of_resetLine {s : State} (flight : s.flightLaw = true) (line : s.resetLine = true) (p : Port) :
    s.own p = none := by
  refine State.own_of_no_segment (fun g there => ?_) p
  simp [State.flightLaw, there, line] at flight

theorem State.Moves.active {s t : State} (m : s.Moves t) (behind : ∀ p, (s.port p).QueuedBehind)
    (flight : s.flightLaw = true) (owner : s.ownerLaw = true) (p : Port) :
    s.ActiveMove p (t.port p).activeEntry (t.own p) :=
  (m.port p).active (behind p) ((s.ownerLaw_iff.mp owner).2 p) fun line => State.own_of_resetLine flight line p

theorem State.Moves.ownerLaw {s t : State} (m : s.Moves t) (behind : ∀ p, (s.port p).QueuedBehind)
    (flight : s.flightLaw = true) (owner : s.ownerLaw = true) : t.ownerLaw = true := by
  obtain ⟨does, owned⟩ := s.ownerLaw_iff.mp owner
  refine t.ownerLaw_iff.mpr ⟨fun g there => ?_, fun p => (m.active behind flight owner p).owned (owned p)⟩
  cases m.flight g there with
  | kept before cmd work =>
    rw [cmd, work]
    exact does _ before
  | goesOn before cmd from_ to_ =>
    rw [cmd]
    exact QueuedCommand.does_table (does _ before) from_ to_
  | granted next cmd work =>
    obtain ⟨-, -, work'⟩ := State.nextWork_eq_some next
    rw [cmd, work]
    exact State.does_of_workOf work'

end Sys2Proof.Machine

namespace Sys2Proof.Machine

/-! ### The progress of an ACTIVE command inside its record (R107, R118, R122, R129, R134) -/

theorem State.ownBlank_iff (s : State) (p : Port) :
    s.ownBlank p = true ↔ ∃ g b, s.own p = some g ∧ g.work = .blankBlock b := by
  unfold State.ownBlank
  rw [Bool.and_eq_true, State.ownSegment_iff]
  constructor
  · rintro ⟨⟨g, flight, port, owned⟩, blank⟩
    rw [flight] at blank
    cases work : g.work with
    | blankBlock b => exact ⟨g, b, (s.own_eq_some_iff p g).mpr ⟨flight, port, owned⟩, work⟩
    | _ => simp [work] at blank
  · rintro ⟨g, b, own, work⟩
    obtain ⟨flight, port, owned⟩ := (s.own_eq_some_iff p g).mp own
    exact ⟨⟨g, flight, port, owned⟩, by rw [flight]; simp [work]⟩

theorem State.ownSegment_of_own {s : State} {p : Port} {g : Segment} (own : s.own p = some g) : s.ownSegment p = true := by
  rw [State.ownSegment_eq, own]
  rfl

theorem State.ownSegment_of_idle {s : State} {p : Port} (idle : s.own p = none) : s.ownSegment p = false := by
  rw [State.ownSegment_eq, idle]
  rfl

theorem State.ownBlank_of_blank {s : State} {p : Port} {g : Segment} {b : Nat} (own : s.own p = some g)
    (work : g.work = .blankBlock b) : s.ownBlank p = true := (s.ownBlank_iff p).mpr ⟨g, b, own, work⟩

theorem State.ownBlank_of_table {s : State} {p : Port} {g : Segment} (own : s.own p = some g)
    (table : g.work.ofTable = true) : s.ownBlank p = false := by
  refine Bool.eq_false_iff.mpr fun set => ?_
  obtain ⟨h, b, there, work⟩ := (s.ownBlank_iff p).mp set
  cases own.symm.trans there
  rw [work] at table
  cases table

@[simp] theorem flagCode_true : flagCode true = 1 := rfl

@[simp] theorem flagCode_false : flagCode false = 0 := rfl

theorem State.progressInside_read (s : State) (p : Port) (x : Partition) (i : Index) (start count : Nat)
    (r : ReadProgress) :
    s.progressInside p x (.read i start count) (.read r) = true ↔
      start + count ≤ x.blockCount * Config.blockSectors ∧
        (r.readingClosed = true ∨
          r.sectorsRead < count ∧ r.nextSector = start + r.sectorsRead + flagCode (s.ownSegment p)) := by
  simp [State.progressInside]

theorem State.progressInside_check (s : State) (p : Port) (x : Partition) (i : Index) (start count : Nat)
    (c : CheckProgress) :
    s.progressInside p x (.check i start count) (.check c) = true ↔
      start + count ≤ x.blockCount * Config.blockSectors ∧
        c.nextSector = start + c.sectorsDone + flagCode (s.ownSegment p) := by
  simp [State.progressInside]

theorem State.progressInside_write (s : State) (p : Port) (x : Partition) (i : Index) (start count : Nat)
    (w : WriteProgress) :
    s.progressInside p x (.write i start count) (.write w) = true ↔
      start + count ≤ x.blockCount * Config.blockSectors ∧ w.nextSector = start + w.sectorsDone := by
  simp [State.progressInside]

theorem State.progressInside_blank (s : State) (p : Port) (x : Partition) (i : Index) (first count : Nat)
    (b : BlankProgress) :
    s.progressInside p x (.blank i first count) (.blank b) = true ↔
      first + count ≤ x.blockCount ∧ b.nextBlock = first + b.blocksDone + flagCode (s.ownSegment p) := by
  simp [State.progressInside]

theorem State.progressInside_wipe (s : State) (p : Port) (x : Partition) (i : Index) (which : Which) (key : Key)
    (w : WipeProgress) :
    s.progressInside p x (.wipe i which key) (.wipe w) = true ↔
      w.nextBlock = w.blocksDone + flagCode (s.ownBlank p) ∧ (w.tableDue = true → x.blockCount ≤ w.blocksDone) := by
  simp [State.progressInside, ← Bool.not_eq_true, imp_iff_not_or]

/-- Whether progress is inside a record is told by the segment of the port's ACTIVE entry. -/
theorem State.progressInside_congr {s t : State} {p : Port} (own : t.own p = s.own p) (x : Partition)
    (c : QueuedCommand) (pr : Progress) : t.progressInside p x c pr = s.progressInside p x c pr := by
  have blank : t.ownBlank p = s.ownBlank p := by
    rw [Bool.eq_iff_iff, State.ownBlank_iff, State.ownBlank_iff, own]
  simp only [State.progressInside, State.ownSegment_eq, own, blank]

/-- A table segment that goes on stays the port's own, and blanks no block of the partition. -/
theorem State.progressInside_goesOn {s t : State} {p : Port} {g : Segment} {w : Work} (own : s.own p = some g)
    (own' : t.own p = some { g with work := w }) (before : g.work.ofTable = true) (after : w.ofTable = true)
    (x : Partition) (c : QueuedCommand) (pr : Progress) : t.progressInside p x c pr = s.progressInside p x c pr := by
  simp only [State.progressInside, State.ownSegment_of_own own, State.ownSegment_of_own own',
    State.ownBlank_of_table own before, State.ownBlank_of_table own' after]

/-- The counts of sectors delivered are not in question. -/
theorem State.progressInside_drained (s : State) (p : Port) (x : Partition) (c : QueuedCommand) (r : ReadProgress)
    (done met : Nat) :
    s.progressInside p x c (.read { r with sectorsDone := done, blankMet := met }) =
      s.progressInside p x c (.read r) := by
  cases c <;> rfl

theorem State.progressAt_iff (s : State) (p : Port) :
    s.progressAt p = true ↔ ∀ e a, (s.port p).activeEntry = some (e, a) → ∀ i, e.cmd.actsOn = some i →
      ∃ x, s.record i = some x ∧ s.progressInside p x e.cmd a.progress = true := by
  unfold State.progressAt
  split
  · rename_i idle
    simp [idle]
  · rename_i e a active
    simp only [active, Option.some.injEq, Prod.mk.injEq]
    split
    · rename_i none
      simp only [true_iff]
      rintro _ _ ⟨rfl, rfl⟩ i acts
      simp [none] at acts
    · rename_i i acts
      split
      · rename_i undefined
        simp only [Bool.false_eq_true, false_iff]
        intro h
        obtain ⟨x, defined, -⟩ := h e a ⟨rfl, rfl⟩ i acts
        simp [undefined] at defined
      · rename_i x record
        constructor
        · rintro inside _ _ ⟨rfl, rfl⟩ j acts'
          cases acts.symm.trans acts'
          exact ⟨x, record, inside⟩
        · intro h
          obtain ⟨y, record', inside⟩ := h e a ⟨rfl, rfl⟩ i acts
          cases record.symm.trans record'
          exact inside

/-! #### Starts -/

/-- A command that becomes ACTIVE begins at the first sector or block of a range inside its record (R65, R66). -/
theorem State.progressInside_of_runs {s t : State} {p : Port} {c : QueuedCommand} {pr : Progress}
    (runs : s.startOutcome p c = .runs pr) (idle : t.own p = none) {i : Index} (acts : c.actsOn = some i)
    (range : c.inIssueRange = true) :
    ∃ x, s.record i = some x ∧ t.progressInside p x c pr = true := by
  have segment := State.ownSegment_of_idle idle
  cases c with
  | read j start count | check j start count | write j start count | blank j start count =>
    cases acts
    simp only [State.startOutcome, State.startRead, State.startCheck, State.startWrite, State.startBlank] at runs
    split at runs
    · cases runs
    rename_i x record
    obtain ⟨checks, rfl⟩ := orRuns_eq_runs_iff.mp runs
    have fits := State.fits_of_dataChecks checks
    simp only [QueuedCommand.inIssueRange, Bool.and_eq_true, decide_eq_true_eq] at range fits
    obtain ⟨⟨-, some⟩, -⟩ := range
    refine ⟨x, record, ?_⟩
    simp [State.progressInside, fits, segment, Nat.lt_of_lt_of_le Nat.zero_lt_one some]
  | wipe j which key =>
    cases acts
    replace runs : s.startWipe p i which key = .runs pr := runs
    unfold State.startWipe at runs
    split at runs
    · cases runs
    rename_i x record
    obtain ⟨-, rfl⟩ := orRuns_eq_runs_iff.mp runs
    have blank := State.ownBlank_of_not_own segment
    exact ⟨x, record, (State.progressInside_wipe _ _ _ _ _ _ _).mpr (by simp [blank])⟩
  | _ => cases acts

/-! #### Grants -/

/-- A granted segment is one further than those done (R109, R119, R130, R134). -/
theorem State.progressInside_granted {s t : State} {p : Port} {e : Entry} {a : Active} {w : Work}
    (next : s.nextWork p = some (e, a, w))
    (own : t.own p = some { port := p, cmd := e.cmd, removed := false, work := w })
    {i : Index} (acts : e.cmd.actsOn = some i) {x : Partition}
    (record : s.record i = some x) (inside : s.progressInside p x e.cmd a.progress = true) :
    t.progressInside p x e.cmd a.progress.granted = true := by
  obtain ⟨-, idle, work⟩ := State.nextWork_eq_some next
  have segment := State.ownSegment_of_own own
  unfold State.workOf at work
  split at work
  case h_1 j start count r cmd progress =>
    rw [cmd] at acts inside ⊢
    rw [progress] at inside ⊢
    cases acts
    simp only [record, Option.ite_none_right_eq_some, Bool.and_eq_true, Bool.not_eq_true'] at work
    obtain ⟨⟨reading, -⟩, -⟩ := work
    rw [State.progressInside_read, idle] at inside
    obtain ⟨fits, more⟩ := inside
    obtain ⟨more, at_⟩ := more.resolve_left (by simp [reading])
    exact (State.progressInside_read _ _ _ _ _ _ _).mpr ⟨fits, .inr ⟨more, by simp [at_, segment]⟩⟩
  case h_2 j start count c cmd progress =>
    rw [cmd] at acts inside ⊢
    rw [progress] at inside ⊢
    rw [State.progressInside_check, idle] at inside
    obtain ⟨fits, at_⟩ := inside
    exact (State.progressInside_check _ _ _ _ _ _ _).mpr ⟨fits, by simp [at_, segment]⟩
  case h_3 j start count k cmd progress =>
    rw [cmd] at inside ⊢
    rw [progress] at inside ⊢
    exact (State.progressInside_write _ _ _ _ _ _ _).mpr ((State.progressInside_write _ _ _ _ _ _ _).mp inside)
  case h_4 j first count b cmd progress =>
    rw [cmd] at inside ⊢
    rw [progress] at inside ⊢
    rw [State.progressInside_blank, idle] at inside
    obtain ⟨fits, at_⟩ := inside
    exact (State.progressInside_blank _ _ _ _ _ _ _).mpr ⟨fits, by simp [at_, segment]⟩
  case h_5 j which key k cmd progress =>
    rw [cmd] at acts inside ⊢
    rw [progress] at inside ⊢
    cases acts
    rw [State.progressInside_wipe, State.ownBlank_of_not_own idle] at inside
    obtain ⟨at_, due⟩ := inside
    refine (State.progressInside_wipe _ _ _ _ _ _ _).mpr ?_
    simp only [record] at work
    split at work
    · rename_i more
      cases work
      have undue : ¬ k.tableDue = true := fun set => absurd (due set) (Nat.not_le.mpr more)
      simp [undue, State.ownBlank_of_blank own rfl, at_]
    · split at work
      · rename_i set
        cases work
        simp [set, State.ownBlank_of_table own rfl, at_]
      · cases work
  case h_10 => cases work
  all_goals
    rename_i cmd _
    rw [cmd] at acts
    cases acts

/-! #### Ends of segments -/

@[simp] theorem CheckProgress.nextSector_counted (c : CheckProgress) (report : ReadReport) :
    (c.counted report).nextSector = c.nextSector := by
  cases report <;> rfl

@[simp] theorem CheckProgress.sectorsDone_counted (c : CheckProgress) (report : ReadReport) :
    (c.counted report).sectorsDone = c.sectorsDone + 1 := by
  cases report <;> rfl

@[simp] theorem ReadProgress.nextSector_reported (r : ReadProgress) (count : Nat) (report : ReadReport) :
    (r.reported count report).nextSector = r.nextSector := by
  cases report <;> rfl

/-- Reading goes on after a report only when one more sector has been read and the range has another (R110, R111). -/
theorem ReadProgress.reading_reported {r : ReadProgress} {count : Nat} {report : ReadReport}
    (reading : (r.reported count report).readingClosed ≠ true) :
    r.readingClosed ≠ true ∧ r.sectorsRead + 1 ≠ count ∧
      (r.reported count report).sectorsRead = r.sectorsRead + 1 := by
  cases report with
  | unreadable => exact absurd rfl reading
  | _ =>
    simp only [ReadProgress.reported, ne_eq, Bool.or_eq_true, decide_eq_true_eq, not_or] at reading
    exact ⟨reading.1, reading.2, rfl⟩

/-- A segment that has ended is counted, and the next sector or block is the one after those done. -/
theorem State.progressInside_counts {s t : State} {p : Port} {g : Segment} {pr pr' : Progress}
    (counts : g.cmd.Counts s.blockCount g.work pr pr') (own : s.own p = some g) (idle : t.own p = none) {i : Index}
    (acts : g.cmd.actsOn = some i) {x : Partition} (record : s.record i = some x)
    (inside : s.progressInside p x g.cmd pr = true) : t.progressInside p x g.cmd pr' = true := by
  have before := State.ownSegment_of_own own
  have after := State.ownSegment_of_idle idle
  generalize cmd : g.cmd = c at counts acts inside ⊢
  generalize work : g.work = w at counts
  cases counts with
  | @reported j start count _ r report =>
    rw [State.progressInside_read, before] at inside
    obtain ⟨fits, more⟩ := inside
    refine (State.progressInside_read _ _ _ _ _ _ _).mpr ⟨fits, ?_⟩
    by_cases closed : (r.reported count report).readingClosed = true
    · exact .inl closed
    obtain ⟨reading, another, read⟩ := ReadProgress.reading_reported closed
    obtain ⟨more, at_⟩ := more.resolve_left reading
    rw [read, ReadProgress.nextSector_reported, at_, after, flagCode_true, flagCode_false]
    exact .inr (by omega)
  | checked report =>
    rw [State.progressInside_check, before] at inside
    obtain ⟨fits, at_⟩ := inside
    exact (State.progressInside_check _ _ _ _ _ _ _).mpr ⟨fits, by simp [at_, after, Nat.add_assoc]⟩
  | written =>
    obtain ⟨fits, at_⟩ := (State.progressInside_write _ _ _ _ _ _ _).mp inside
    exact (State.progressInside_write _ _ _ _ _ _ _).mpr ⟨fits, by simp [at_, Nat.add_assoc]⟩
  | blanked =>
    rw [State.progressInside_blank, before] at inside
    obtain ⟨fits, at_⟩ := inside
    exact (State.progressInside_blank _ _ _ _ _ _ _).mpr ⟨fits, by simp [at_, after, Nat.add_assoc]⟩
  | wiped =>
    cases acts
    rw [State.progressInside_wipe, State.ownBlank_of_blank own work] at inside
    obtain ⟨at_, -⟩ := inside
    have blocks : s.blockCount i = x.blockCount := by rw [State.blockCount, record]
    refine (State.progressInside_wipe _ _ _ _ _ _ _).mpr ?_
    rw [State.ownBlank_of_not_own after, blocks]
    simp [at_]
    omega

/-! ### The progress law is kept -/

/-- What the ACTIVE entry goes on with is inside its record again. -/
theorem State.ActiveMove.progressInside {s t : State} {p : Port} {active : Option (Entry × Active)}
    {own : Option Segment} (m : s.ActiveMove p active own) (there : t.own p = own)
    (law : Owned (s.port p).activeEntry (s.own p)) (inside : s.progressAt p = true)
    (range : ∀ e a, active = some (e, a) → e.cmd.inIssueRange = true) :
    ∀ e a, active = some (e, a) → ∀ i, e.cmd.actsOn = some i →
      ∃ x, s.record i = some x ∧ t.progressInside p x e.cmd a.progress = true := by
  intro e' a' now i acts
  have old := (s.progressAt_iff p).mp inside
  cases m with
  | stays =>
    obtain ⟨x, record, inside⟩ := old e' a' now i acts
    exact ⟨x, record, by rwa [State.progressInside_congr there]⟩
  | goesOn own before after =>
    obtain ⟨x, record, inside⟩ := old e' a' now i acts
    exact ⟨x, record, by rwa [State.progressInside_goesOn own there before after]⟩
  | idle => cases now
  | starts runs new =>
    have admitted := range _ _ rfl
    cases now
    subst new
    exact State.progressInside_of_runs runs there acts admitted
  | goes before goes =>
    cases now
    obtain ⟨x, record, inside⟩ := old _ _ before i acts
    refine ⟨x, record, ?_⟩
    cases goes with
    | abort own => rwa [State.progressInside_congr (there.trans own.symm)]
    | drained progress done met =>
      rw [State.progressInside_congr there]
      rw [progress] at inside
      exact (State.progressInside_drained _ _ _ _ _ _ _).trans inside
    | granted work => exact State.progressInside_granted work there acts record inside
    | landed own kept counts =>
      obtain ⟨e, a, active, same⟩ := law.segment _ own
      cases before.symm.trans active
      rw [same] at inside acts
      exact same ▸ State.progressInside_counts counts own there acts record inside

end Sys2Proof.Machine

namespace Sys2Proof.Machine

/-! ### The ranges at issue, and the records of the ACTIVE commands -/

/-- A queue's commands are those that were issued: every move keeps their ranges (R62). -/
theorem State.Move.inIssueRange {s : State} {p : Port} {q : List Entry} {own : Option Segment} (m : s.Move p q own)
    (law : ∀ e ∈ (s.port p).queue, e.cmd.inIssueRange = true) : ∀ e ∈ q, e.cmd.inIssueRange = true := by
  have head : ∀ {e : Entry} {rest : List Entry} (b : Active), (s.port p).queue = e :: rest →
      ∀ x ∈ { e with active := some b } :: rest, x.cmd.inIssueRange = true := by
    intro e rest b queue x mem
    obtain rfl | later := List.mem_cons.mp mem
    · exact law e (by simp [queue])
    · exact law x (by simp [queue, later])
  cases m with
  | stays | goesOn | lost | reloads => exact law
  | joins _ _ _ range =>
    intro x mem
    obtain old | new := List.mem_append.mp mem
    · exact law x old
    · exact List.mem_singleton.mp new ▸ range
  | withdrawn _ _ => exact fun x mem => law x (List.mem_of_mem_eraseP mem)
  | starts _ queue _ => exact head _ queue
  | fails | ends => exact fun x mem => law x (List.mem_of_mem_tail mem)
  | goes active _ => exact head _ (PortUnit.queue_of_activeEntry active).1
  | cleared => exact fun x mem => by cases mem

/-- An ACTIVE command that acts on a partition finds its record as it was (R31). -/
def State.KeepsRecords (s t : State) : Prop :=
  ∀ p e a i, (t.port p).activeEntry = some (e, a) → e.cmd.actsOn = some i → t.record i = s.record i

theorem State.KeepsRecords.of_live {s t : State} (h : t.live = s.live) : s.KeepsRecords t := by
  intro p e a i _ _
  rw [State.record, State.record, h]

theorem State.SameCourse.keepsRecords {s t : State} (c : s.SameCourse t) : s.KeepsRecords t := .of_live c.live

theorem State.KeepsRecords.of_idle {s t : State} (h : ∀ p, (t.port p).activeEntry = none) : s.KeepsRecords t := by
  intro p e a i active _
  simp [h p] at active

theorem PortUnit.activeEntry_of_no_command {u : PortUnit} (h : u.activeCommand = none) : u.activeEntry = none := by
  simpa [PortUnit.activeCommand] using h

/-- At a switchover the ACTIVE commands whose records differ end (R31). -/
theorem State.keepsRecords_switchover {s : State} (behind : ∀ p, (s.port p).QueuedBehind) (idle : s.inFlight = none)
    (g : Segment) (new : Table) : s.KeepsRecords (s.switchover g new) := by
  intro q e a i active acts
  have live : (s.switchover g new).live = new := (s.sameCourse_switchover g new).live
  show (s.switchover g new).live.records[i] = s.live.records[i]
  rw [live]
  by_cases other : q ≠ g.port ∨ g.removed = true
  · have queue : ((s.switchover g new).port q).queue = ((s.endChanged g new).port q).queue := by
      rw [State.port_switchover_of_other other, State.queue_makeLive]
    rw [PortUnit.activeEntry_congr queue] at active
    by_contra differs
    cases ends : s.endsAtSwitchover g new q with
    | false =>
      rw [State.port_endChanged_of_kept ends] at active
      have := (s.endsAtSwitchover_iff g new q).mpr ⟨other, e, a, i, active, acts, fun same => differs same.symm⟩
      simp [ends] at this
    | true =>
      obtain ⟨-, e', a', i', active', acts', differs'⟩ := (s.endsAtSwitchover_iff g new q).mp ends
      rw [State.port_endChanged_of_changed idle other active' acts' differs', PortUnit.activeEntry_eq,
        activeOf_of_queued (behind q)] at active
      cases active
  · simp only [not_or, not_not, Bool.not_eq_true] at other
    obtain ⟨rfl, owned⟩ := other
    have made := (s.noNewJob_endChanged g new).trans (State.noNewJob_makeLive _ g new)
    have behind' := (made.port g.port (behind g.port)).1
    rw [State.switchover_of_owned owned, PortUnit.activeEntry_of_no_command (State.activeCommand_finish behind' _)]
      at active
    cases active

theorem State.keepsRecords_recordsEnd {s : State} (behind : ∀ p, (s.port p).QueuedBehind) (g : Segment) (new : Table)
    (ok : Bool) : s.KeepsRecords (s.recordsEnd g new ok) := by
  unfold State.recordsEnd
  dsimp only
  split
  · intro q e a i active acts
    rw [PortUnit.activeEntry_congr (State.queue_settle _ q)] at active
    show State.record _ i = _
    rw [State.record, State.live_settle]
    exact State.keepsRecords_switchover (s := { s.landed with array := _ }) behind rfl g new q e a i active acts
  · exact .of_live (State.sameCourse_tableFault _ _ _ _).settle.live

theorem State.keepsRecords_headerEnd (s : State) (g : Segment) (new : Table) (ok : Bool) :
    s.KeepsRecords (s.headerEnd g new ok) := by
  unfold State.headerEnd
  dsimp only
  split
  · exact .of_live rfl
  · exact .of_live (State.sameCourse_tableFault _ _ _ _).settle.live

theorem State.keepsRecords_grant (s : State) (p : Port) (e : Entry) (a : Active) (w : Work) :
    s.KeepsRecords (s.grant p e a w) := by
  unfold State.grant
  split
  · exact .of_live (State.sameCourse_tableFault _ _ _ _).settle.live
  · exact .of_live (State.sameCourse_updPort _ _ _).settle.live

/-- The load's end finds no ACTIVE command, since the part was LOADING (R38). -/
theorem State.keepsRecords_loadEnd {s : State} (loading : s.Loading) (got : List ReadReport) :
    s.KeepsRecords (s.loadEnd got) := by
  refine .of_idle fun p => ?_
  have queue : ((s.loadEnd got).port p).queue = (s.port p).queue := by
    unfold State.loadEnd
    split
    · rfl
    · rw [State.queue_settle]
      show PortUnit.queue ((PerPort.mapPorts _ _).get p) = _
      rw [PerPort.get_mapPorts]
      rfl
  rw [PortUnit.activeEntry_congr queue, loading.activeEntry]

/-- Every event keeps the records of the commands that stay ACTIVE. -/
theorem State.Event.keepsRecords {s t : State} (course : s.Loading ∨ s.Serving)
    (behind : ∀ p, (s.port p).QueuedBehind) (e : s.Event t) : s.KeepsRecords t := by
  cases e with
  | nothing | tableBlankEnd | tick | withPrst | partResetUnpowered | releaseReset => exact .of_live rfl
  | commandStart p => exact (s.sameCourse_commandStart p).keepsRecords
  | grant _ _ _ _ => exact s.keepsRecords_grant _ _ _ _
  | readEnd _ _ _ => exact .of_live (s.sameCourse_readEnd _ _ _).settle.live
  | checkEnd _ _ _ => exact .of_live (s.sameCourse_checkEnd _ _ _).settle.live
  | writeEnd ok _ _ _ =>
    exact .of_live ((s.sameCourse_writeEnd _ _ _ _ _ ok).settle.live.trans (s.live_programmed _ _ _ _ ok))
  | blankEnd _ _ _ => exact .of_live (s.sameCourse_blankEnd _ _ _ _).settle.live
  | wipeBlockEnd _ _ _ => exact .of_live (s.sameCourse_wipeBlockEnd _ _ _).settle.live
  | headerEnd ok _ _ => exact s.keepsRecords_headerEnd _ _ ok
  | recordsEnd ok _ _ => exact State.keepsRecords_recordsEnd behind _ _ ok
  | loadEnd flight =>
    obtain loading | serving := course
    · exact State.keepsRecords_loadEnd loading _
    · obtain none | ⟨⟨g, segment⟩, -⟩ := serving.flight
      · simp [flight] at none
      · simp [flight] at segment
  | standbyExpiry => exact s.sameCourse_standbyExpiry.keepsRecords
  | wakeEnd => exact s.sameCourse_wakeEnd.keepsRecords
  | leaseExpiry => exact s.sameCourse_leaseExpiry.keepsRecords
  | stallExpiry p => exact (s.sameCourse_stallExpiry p).keepsRecords
  | resetPort p _ _ => exact .of_live (State.live_settle _)
  | partReset begun _ | powerOn begun | powerLoss begun _ =>
    exact .of_idle fun p => PortUnit.activeEntry_of_no_command (s.activeCommand_wiped begun p)

/-! ### The laws over a step -/

/-- The progress law, port by port and for the segment in flight. -/
theorem State.progressLaw_iff (s : State) :
    s.progressLaw = true ↔
      (∀ p, ∀ e ∈ (s.port p).queue, e.cmd.inIssueRange = true) ∧ (∀ p, s.progressAt p = true) ∧
        ∀ g, s.inFlight = some (.segment g) → g.work.inUserSpace = true := by
  have segment : s.segmentInside = true ↔ ∀ g, s.inFlight = some (.segment g) → g.work.inUserSpace = true := by
    unfold State.segmentInside
    split
    · rename_i flight
      simp [flight]
    · rename_i flight
      simp [flight]
    · rename_i flight
      simp [flight]
  simp only [State.progressLaw, Bool.and_eq_true, State.atPorts_iff, List.all_eq_true, segment]
  constructor
  · rintro ⟨⟨⟨⟨range, a⟩, b⟩, c⟩, inside⟩
    exact ⟨range, fun p => by cases p <;> assumption, inside⟩
  · rintro ⟨range, inside, space⟩
    exact ⟨⟨⟨⟨range, inside .a⟩, inside .b⟩, inside .c⟩, space⟩

theorem Work.inUserSpace_of_table {w : Work} (table : w.ofTable = true) : w.inUserSpace = true := by
  cases w with
  | readSector | programSector | blankBlock => cases table
  | _ => rfl

theorem PortUnit.mem_of_activeEntry {u : PortUnit} {e : Entry} {a : Active} (active : u.activeEntry = some (e, a)) :
    e ∈ u.queue := by
  rw [(PortUnit.queue_of_activeEntry active).1]
  exact List.mem_cons_self

theorem State.Moves.progressLaw {s t : State} (m : s.Moves t) (records : s.KeepsRecords t)
    (behind : ∀ p, (s.port p).QueuedBehind) (flight : s.flightLaw = true) (owner : s.ownerLaw = true)
    (tables : s.tablesValid = true) (law : s.progressLaw = true) : t.progressLaw = true := by
  obtain ⟨range, inside, space⟩ := s.progressLaw_iff.mp law
  have range' : ∀ p, ∀ e ∈ (t.port p).queue, e.cmd.inIssueRange = true := fun p => (m.port p).inIssueRange (range p)
  refine t.progressLaw_iff.mpr ⟨range', fun p => ?_, fun g there => ?_⟩
  · refine (t.progressAt_iff p).mpr fun e a active i acts => ?_
    rw [records p e a i active acts]
    exact (m.active behind flight owner p).progressInside rfl ((s.ownerLaw_iff.mp owner).2 p) (inside p)
      (fun e a active => range' p e (PortUnit.mem_of_activeEntry active)) e a active i acts
  · cases m.flight g there with
    | kept before _ work => exact work ▸ space _ before
    | goesOn _ _ _ after => exact Work.inUserSpace_of_table after
    | granted next _ work => exact work ▸ State.work_inUserSpace tables law (.inl ⟨_, _, _, next⟩)

/-- The laws under which the owner law and the progress law are kept. -/
structure State.Ordered (s : State) : Prop where
  queue : s.atPorts PortUnit.queueLaw = true
  flight : s.flightLaw = true
  owner : s.ownerLaw = true

/-- Settles O15: the moves of a step give each ACTIVE entry its segment back, or take both, and count each segment once
when it is granted and once when it has ended. -/
theorem segmentKeepsItsOwner : Obligations.SegmentKeepsItsOwner := by
  intro s t queue flight owner h
  refine ⟨?_, fun loading tables progress => ?_⟩
  · exact step_induction (I := State.Ordered) (J := fun s => s.ownerLaw = true)
      (fun _ _ h => ⟨h.queue, h.flight, h.owner⟩) (fun _ _ _ h => ⟨h.queue, h.flight, h.owner⟩) (fun _ _ _ h => h)
      (fun h e => (e.moves (State.queuedBehind_of_queueLaw h.queue)).ownerLaw (State.queuedBehind_of_queueLaw h.queue)
        h.flight h.owner)
      (fun h e => e.moves.ownerLaw (State.queuedBehind_of_queueLaw h.queue) h.flight h.owner) h ⟨queue, flight, owner⟩
  · exact step_induction
      (I := fun s => s.Ordered ∧ s.loadingLaw = true ∧ s.tablesValid = true ∧ s.progressLaw = true)
      (J := fun s => s.progressLaw = true)
      (fun _ _ ⟨h, laws⟩ => ⟨⟨h.queue, h.flight, h.owner⟩, laws⟩)
      (fun _ _ _ ⟨h, laws⟩ => ⟨⟨h.queue, h.flight, h.owner⟩, laws⟩) (fun _ _ _ h => h)
      (fun ⟨h, _, tables, progress⟩ e =>
        have behind := State.queuedBehind_of_queueLaw h.queue
        (e.moves behind).progressLaw e.sameCourse.keepsRecords behind h.flight h.owner tables progress)
      (fun {s _} ⟨h, loading, tables, progress⟩ e =>
        have behind := State.queuedBehind_of_queueLaw h.queue
        have course := s.loading_or_serving_iff.mp ⟨loading, h.flight⟩
        e.moves.progressLaw (e.keepsRecords course behind) behind h.flight h.owner tables progress)
      h ⟨⟨queue, flight, owner⟩, loading, tables, progress⟩

end Sys2Proof.Machine

namespace Sys2Proof.Machine

/-! ### The issue of a queued command (R62) -/

/-- The issues of the ten queued commands at a port with a tag. -/
def queuedIssues (p : Port) (tag : Byte) : List Instr :=
  [.read p tag, .check p tag, .write p tag, .blank p tag, .wipe p tag, .commit p tag, .openKey p tag, .setKey p tag,
    .clearKey p tag, .setRecovery p tag]

/-- The command that a port's parameter words give to an issue, absent when one lies outside its range (R62, R177). -/
def PortUnit.given (u : PortUnit) : Instr → Option QueuedCommand
  | .read _ _ => u.givenRead
  | .check _ _ => u.givenCheck
  | .write _ _ => u.givenWrite
  | .blank _ _ => u.givenBlank
  | .wipe _ _ => u.givenWipe
  | .commit _ _ => some .commit
  | .openKey _ _ => u.givenOpen
  | .setKey _ _ => u.givenSetKey
  | .clearKey _ _ => u.givenClearKey
  | .setRecovery _ _ => u.givenSetRecovery
  | _ => none

theorem exec_issue {c : Instr} {p : Port} {tag : Byte} (one : c ∈ queuedIssues p tag) (s : State) :
    exec c s = .next (s.onWrite p 0 fun s => s.issueQueued p tag fun u => u.given c) := by
  simp only [queuedIssues, List.mem_cons, List.not_mem_nil, or_false] at one
  obtain rfl | rfl | rfl | rfl | rfl | rfl | rfl | rfl | rfl | rfl := one
  all_goals rfl

theorem PortUnit.issueQueued_tagInUse {u : PortUnit} {tag : Byte} (given : Option QueuedCommand)
    (room : u.queue.length < 4) (used : ∃ e ∈ u.queue, e.tag = tag) :
    u.issueQueued tag given = { u with answers := answerCode codeTagInUse } := by
  have notFull : ¬ Config.queueSize ≤ u.queue.length := Nat.not_le.mpr room
  have found : (u.queue.any fun e => decide (e.tag = tag)) = true := by simpa using used
  unfold PortUnit.issueQueued
  rw [if_neg notFull, if_pos found]

theorem PortUnit.issueQueued_badParam {u : PortUnit} {tag : Byte} (room : u.queue.length < 4)
    (fresh : ∀ e ∈ u.queue, e.tag ≠ tag) :
    u.issueQueued tag none = { u with answers := answerCode codeBadParam } := by
  have notFull : ¬ Config.queueSize ≤ u.queue.length := Nat.not_le.mpr room
  have absent : ¬ (u.queue.any fun e => decide (e.tag = tag)) = true := by simpa using fresh
  rw [PortUnit.issueQueued, if_neg notFull, if_neg absent]

section

variable {s : State} {p : Port} {tag : Byte} {c : Instr} (one : c ∈ queuedIssues p tag)
  (made : s.accessMade p false 0 = true)

include one made

/-- A refused issue changes nothing but the ANSWER words. -/
theorem exec_issue_of_refused {ws : Vector Word 8}
    (refuses : (s.port p).issueQueued tag ((s.port p).given c) = { s.port p with answers := ws }) :
    exec c s = .next (s.answered p ws) := by
  rw [exec_issue one]
  refine State.next_onWrite_answer made ?_
  rw [State.issueQueued, State.updPort, refuses]
  rfl

theorem exec_issue_of_full (full : 4 ≤ (s.port p).queue.length) : exec c s = .next (s.answered p (codeAlone 0x23)) :=
  exec_issue_of_refused one made (PortUnit.issueQueued_full tag _ full)

variable (room : (s.port p).queue.length < 4)

include room

theorem exec_issue_of_tagInUse (used : ∃ e ∈ (s.port p).queue, e.tag = tag) :
    exec c s = .next (s.answered p (codeAlone 0x24)) :=
  exec_issue_of_refused one made (PortUnit.issueQueued_tagInUse _ room used)

variable (fresh : ∀ e ∈ (s.port p).queue, e.tag ≠ tag)

include fresh

theorem exec_issue_of_badParam (bad : (s.port p).given c = none) : exec c s = .next (s.answered p (codeAlone 0x25)) :=
  exec_issue_of_refused one made (bad ▸ PortUnit.issueQueued_badParam room fresh)

/-- An accepted issue joins the queue; `stage` is the key stage afterwards (R62, R153). -/
theorem exec_issue_of_accepted {cmd : QueuedCommand} {stage : Option Key} (gives : (s.port p).given c = some cmd)
    (kept : ((s.port p).accept tag cmd).keyStage = stage) : exec c s = .next (s.enqueued p tag cmd stage) := by
  rw [exec_issue one, State.onWrite_of_made _ made]
  refine congrArg (fun t : State => Host.Outcome.next (t.passWord p)) ?_
  rw [State.issueQueued, State.updPort, gives, PortUnit.issueQueued_accepted room fresh, ← kept]
  rfl

end

/-! ### The parameters at issue (R62, R178) -/

theorem indexOf_of_eq {n : Nat} {i : Index} (h : n = i.val) : indexOf n = some i := h ▸ indexOf_val i

theorem PortUnit.sectorRange_of_good {u : PortUnit} {i : Index} (index : u.params[0].toNat = i.val)
    (good : u.params[1].toNat ≤ 16351 ∧ 1 ≤ u.params[2].toNat ∧ u.params[2].toNat ≤ 256) :
    u.sectorRange = some (i, u.params[1].toNat, u.params[2].toNat) := by
  have part : indexOf (u.param 0) = some i := indexOf_of_eq index
  simp only [PortUnit.sectorRange, part]
  exact if_pos good

theorem PortUnit.sectorRange_of_bad {u : PortUnit}
    (bad : 7 < u.params[0].toNat ∨ 16351 < u.params[1].toNat ∨ u.params[2].toNat < 1 ∨ 256 < u.params[2].toNat) :
    u.sectorRange = none := by
  unfold PortUnit.sectorRange
  split
  · rfl
  · rename_i i index
    refine if_neg fun ⟨start, low, high⟩ => ?_
    obtain far | far | none | many := bad
    · simp [indexOf_of_gt (n := u.param 0) far] at index
    · exact absurd start (Nat.not_le.mpr far)
    · exact absurd low (Nat.not_le.mpr none)
    · exact absurd high (Nat.not_le.mpr many)

theorem PortUnit.blockRange_of_good {u : PortUnit} {i : Index} (index : u.params[0].toNat = i.val)
    (good : u.params[1].toNat ≤ 1021 ∧ 1 ≤ u.params[2].toNat ∧ u.params[2].toNat ≤ 1022) :
    u.blockRange = some (i, u.params[1].toNat, u.params[2].toNat) := by
  have part : indexOf (u.param 0) = some i := indexOf_of_eq index
  simp only [PortUnit.blockRange, part]
  exact if_pos good

theorem PortUnit.blockRange_of_bad {u : PortUnit}
    (bad : 7 < u.params[0].toNat ∨ 1021 < u.params[1].toNat ∨ u.params[2].toNat < 1 ∨ 1022 < u.params[2].toNat) :
    u.blockRange = none := by
  unfold PortUnit.blockRange
  split
  · rfl
  · rename_i i index
    refine if_neg fun ⟨first, low, high⟩ => ?_
    obtain far | far | none | many := bad
    · simp [indexOf_of_gt (n := u.param 0) far] at index
    · exact absurd first (Nat.not_le.mpr far)
    · exact absurd low (Nat.not_le.mpr none)
    · exact absurd high (Nat.not_le.mpr many)

theorem whichOf_of_named {n : Nat} {which : Which} (h : namesWhich n which) : whichOf n = some which := by
  cases which
  all_goals
    rw [show n = _ from h]
    rfl

theorem whichOf_of_gt {n : Nat} (h : 1 < n) : whichOf n = none := by
  unfold whichOf
  split
  · simp at h
  · simp at h
  · rfl

theorem modeOf_of_gt {n : Nat} (h : 1 < n) : modeOf n = none := by
  unfold modeOf
  split
  · simp at h
  · simp at h
  · rfl

theorem PortUnit.partAndWhich_of_good {u : PortUnit} {i : Index} {which : Which} (index : u.params[0].toNat = i.val)
    (named : namesWhich u.params[1].toNat which) : u.partAndWhich = some (i, which) := by
  have part : indexOf (u.param 0) = some i := indexOf_of_eq index
  have partner : whichOf (u.param 1) = some which := whichOf_of_named named
  simp only [PortUnit.partAndWhich, part, partner]

theorem PortUnit.partAndWhich_of_bad {u : PortUnit} (bad : 7 < u.params[0].toNat ∨ 1 < u.params[1].toNat) :
    u.partAndWhich = none := by
  obtain far | other := bad
  · simp only [PortUnit.partAndWhich, indexOf_of_gt (n := u.param 0) far]
  · cases index : indexOf (u.param 0) <;> simp only [PortUnit.partAndWhich, index, whichOf_of_gt (n := u.param 1) other]

theorem PortUnit.givenSetKey_of_good {u : PortUnit} {i : Index} {mode : KeyMode} (index : u.params[0].toNat = i.val)
    (named : modeOf u.params[1].toNat = some mode) : u.givenSetKey = some (.setKey i u.paramKey mode) := by
  have part : indexOf (u.param 0) = some i := indexOf_of_eq index
  have chosen : modeOf (u.param 1) = some mode := named
  simp only [PortUnit.givenSetKey, part, chosen]

theorem PortUnit.givenSetKey_of_bad {u : PortUnit} (bad : 7 < u.params[0].toNat ∨ 1 < u.params[1].toNat) :
    u.givenSetKey = none := by
  obtain far | other := bad
  · simp only [PortUnit.givenSetKey, indexOf_of_gt (n := u.param 0) far]
  · cases index : indexOf (u.param 0) <;> simp only [PortUnit.givenSetKey, index, modeOf_of_gt (n := u.param 1) other]

theorem PortUnit.paramKey_bytes (u : PortUnit) (k : Fin 8) :
    u.paramKey[2 * k.val] = u.params[4 + k.val].setWidth 8 ∧
      u.paramKey[2 * k.val + 1] = (u.params[4 + k.val] >>> 8).setWidth 8 := by
  fin_cases k <;> exact ⟨rfl, rfl⟩

/-- The key that the parameter words hold (R175). -/
theorem PortUnit.paramKey_of_given {u : PortUnit} {key : Key} (h : u.keyGiven key) : u.paramKey = key := by
  refine Vector.ext fun n bound => ?_
  obtain ⟨k, rfl | rfl⟩ := Nat.even_or_odd' n
  · exact (u.paramKey_bytes ⟨k, by omega⟩).1.trans (h ⟨k, by omega⟩).1.symm
  · exact (u.paramKey_bytes ⟨k, by omega⟩).2.trans (h ⟨k, by omega⟩).2.symm

/-! ### BAD_COMMAND -/

theorem decodeIssue_of_no_code {p : Port} {selector word : Word} (h : isCommandCode (issueCode word) = false) :
    decodeIssue p selector word = .badCommand p word := by
  unfold decodeIssue
  split
  case h_26 => rfl
  all_goals simp_all [isCommandCode]

/-! ### The three statements -/

/-- Settles O19: the parameter words give the command, and the issue is accepted. -/
theorem dataIssuesAreAccepted : Obligations.DataIssuesAreAccepted := by
  rintro s p tag i x y made room fresh index rfl rfl
  refine ⟨fun start low high => ?_, fun first low high => ?_⟩
  · have range := PortUnit.sectorRange_of_good index ⟨start, low, high⟩
    refine ⟨?_, ?_, ?_⟩
    · exact exec_issue_of_accepted (c := .read p tag) (by simp [queuedIssues]) made room fresh
        (congrArg (Option.map _) range) rfl
    · exact exec_issue_of_accepted (c := .check p tag) (by simp [queuedIssues]) made room fresh
        (congrArg (Option.map _) range) rfl
    · exact exec_issue_of_accepted (c := .write p tag) (by simp [queuedIssues]) made room fresh
        (congrArg (Option.map _) range) rfl
  · exact exec_issue_of_accepted (c := .blank p tag) (by simp [queuedIssues]) made room fresh
      (congrArg (Option.map _) (PortUnit.blockRange_of_good index ⟨first, low, high⟩)) rfl

/-- Settles O20: the parameter words give the command with its key, and the issue is accepted. -/
theorem tableAndKeyIssuesAreAccepted : Obligations.TableAndKeyIssuesAreAccepted := by
  intro s p tag key made room fresh given
  obtain rfl := PortUnit.paramKey_of_given given
  refine ⟨?_, ?_, fun i index => ⟨?_, fun which named => ⟨?_, ?_⟩, fun standard => ?_, fun strict => ?_⟩⟩
  · exact exec_issue_of_accepted (c := .commit p tag) (by simp [queuedIssues]) made room fresh rfl rfl
  · exact exec_issue_of_accepted (c := .setRecovery p tag) (by simp [queuedIssues]) made room fresh rfl rfl
  · exact exec_issue_of_accepted (c := .clearKey p tag) (by simp [queuedIssues]) made room fresh
      (congrArg (Option.map _) (indexOf_of_eq index)) rfl
  · exact exec_issue_of_accepted (c := .wipe p tag) (by simp [queuedIssues]) made room fresh
      (congrArg (Option.map _) (PortUnit.partAndWhich_of_good index named)) rfl
  · exact exec_issue_of_accepted (c := .openKey p tag) (by simp [queuedIssues]) made room fresh
      (congrArg (Option.map _) (PortUnit.partAndWhich_of_good index named)) rfl
  · exact exec_issue_of_accepted (c := .setKey p tag) (by simp [queuedIssues]) made room fresh
      (PortUnit.givenSetKey_of_good index (mode := .standard) (by rw [standard]; rfl)) rfl
  · exact exec_issue_of_accepted (c := .setKey p tag) (by simp [queuedIssues]) made room fresh
      (PortUnit.givenSetKey_of_good index (mode := .strict) (by rw [strict]; rfl)) rfl

/-- Settles O21: QUEUE_FULL and TAG_IN_USE are tested before the parameter words are read, and each range that fails gives
no command. -/
theorem issuesAreRefusedInOrder : Obligations.IssuesAreRefusedInOrder := by
  intro s p tag made
  refine ⟨fun word noCode => ?_, fun c one => ⟨fun full => ?_, fun room used => ?_⟩, fun room fresh =>
    ⟨fun c one bad => ?_, fun bad => ?_, fun c one bad => ?_, fun far => ?_⟩⟩
  · have bad : s.issueWord p word = s.answer p (codeAlone 0x22) := by
      rw [State.issueWord, decodeIssue_of_no_code (by simpa [Instr.wf] using noCode)]
      rfl
    exact State.next_onWrite_answer made bad
  · exact exec_issue_of_full one made full
  · exact exec_issue_of_tagInUse one made room used
  · have range := PortUnit.sectorRange_of_bad bad
    simp only [List.mem_cons, List.not_mem_nil, or_false] at one
    obtain rfl | rfl | rfl := one
    all_goals
      refine exec_issue_of_badParam (by simp [queuedIssues]) made room fresh ?_
      exact congrArg (Option.map _) range
  · exact exec_issue_of_badParam (c := .blank p tag) (by simp [queuedIssues]) made room fresh
      (congrArg (Option.map _) (PortUnit.blockRange_of_bad bad))
  · have named := PortUnit.partAndWhich_of_bad bad
    simp only [List.mem_cons, List.not_mem_nil, or_false] at one
    obtain rfl | rfl | rfl := one
    · exact exec_issue_of_badParam (by simp [queuedIssues]) made room fresh (congrArg (Option.map _) named)
    · exact exec_issue_of_badParam (by simp [queuedIssues]) made room fresh (congrArg (Option.map _) named)
    · exact exec_issue_of_badParam (by simp [queuedIssues]) made room fresh (PortUnit.givenSetKey_of_bad bad)
  · exact exec_issue_of_badParam (c := .clearKey p tag) (by simp [queuedIssues]) made room fresh
      (congrArg (Option.map _) (indexOf_of_gt far))

end Sys2Proof.Machine

namespace Sys2Proof.Machine

/-! ### ABORT (R75 to R78) -/

theorem tagOf_toNat (tag : Byte) : tagOf tag.toNat = some tag := by
  rw [tagOf, if_pos tag.isLt, BitVec.ofNat_toNat, BitVec.setWidth_eq]

theorem State.abort_of_badTag {s : State} {p : Port} (far : 255 < (s.port p).params[0].toNat) :
    s.abort p = s.answer p (codeAlone 0x25) := by
  have none : tagOf ((s.port p).param 0) = none := if_neg (Nat.not_lt.mpr far)
  unfold State.abort
  rw [none]
  rfl

section

variable {s : State} {p : Port} {tag : Byte} (named : tag.toNat = (s.port p).params[0].toNat)

include named

theorem State.abort_of_absent (absent : ∀ e ∈ (s.port p).queue, e.tag ≠ tag) :
    s.abort p = s.answer p (codeAlone 0x2A) := by
  have given : tagOf ((s.port p).param 0) = some tag := (congrArg tagOf named).symm.trans (tagOf_toNat tag)
  have none : ((s.port p).queue.find? fun e => decide (e.tag = tag)) = none := by simpa using absent
  unfold State.abort
  simp only [given, none]
  rfl

theorem State.abort_of_queued {e : Entry} (found : ((s.port p).queue.find? fun e => decide (e.tag = tag)) = some e)
    (queued : e.active = none) :
    s.abort p =
      (s.updPort p fun u => { u with queue := u.queue.eraseP fun e => decide (e.tag = tag) }).answer p
        (codeAlone 0x20) := by
  have given : tagOf ((s.port p).param 0) = some tag := (congrArg tagOf named).symm.trans (tagOf_toNat tag)
  unfold State.abort
  simp only [given, found, queued]
  rfl

theorem State.abort_of_active {e : Entry} {a : Active} (active : (s.port p).activeEntry = some (e, a))
    (own : e.tag = tag) : s.abort p = ((s.abortActive p e a).answer p (codeAlone 0x20)).settle := by
  have given : tagOf ((s.port p).param 0) = some tag := (congrArg tagOf named).symm.trans (tagOf_toNat tag)
  obtain ⟨queue, started⟩ := PortUnit.queue_of_activeEntry active
  have found : ((s.port p).queue.find? fun e => decide (e.tag = tag)) = some e := by
    rw [queue]
    exact List.find?_cons_of_pos (by simpa using own)
  unfold State.abort
  simp only [given, found, started]
  rfl

end

theorem exec_abort {s : State} {p : Port} (made : s.accessMade p false 0 = true) :
    exec (.abort p) s = .next ((s.abort p).passWord p) :=
  congrArg Host.Outcome.next (State.onWrite_of_made (fun s => s.abort p) made)

/-- Settles O35: the tag of PARAM0 names no entry, or the first entry with it, which is taken out of the queue. -/
theorem abortRemovesAQueuedEntry : Obligations.AbortRemovesAQueuedEntry := by
  intro s p made
  rw [exec_abort made]
  refine ⟨fun far => ?_, fun byte absent => ?_, fun pre e post queue queued named before => ?_⟩
  · rw [State.abort_of_badTag far]
    rfl
  · have named : (BitVec.ofNat 8 (s.port p).params[0].toNat).toNat = (s.port p).params[0].toNat :=
      (BitVec.toNat_ofNat _ _).trans (Nat.mod_eq_of_lt (Nat.lt_succ_of_le byte))
    rw [State.abort_of_absent named fun e mem same => absent e mem (same ▸ named)]
    rfl
  · have notBefore : ∀ x ∈ pre, ¬ decide (x.tag = e.tag) = true := by simpa using before
    have found : ((s.port p).queue.find? fun x => decide (x.tag = e.tag)) = some e := by
      rw [queue, List.find?_append, List.find?_eq_none.mpr notBefore, List.find?_cons_of_pos (by simp),
        Option.none_or]
    have erased : ((s.port p).queue.eraseP fun x => decide (x.tag = e.tag)) = pre ++ post := by
      rw [queue, List.eraseP_append_right _ notBefore, List.eraseP_cons_of_pos (by simp)]
    rw [State.abort_of_queued named found queued, State.answer, State.updPort_updPort, State.updPort, erased]

/-! ### ABORT of an ACTIVE entry (R76, R77, R41, R55) -/

/-- The table state after an entry that held it ended. -/
def State.tableStateWithout (s : State) (cmd : QueuedCommand) : TableState :=
  match cmd, s.tableState with
  | .commit, .committing h staged lease => .claimed h staged lease 0
  | .wipe _ _ _, _ => .free
  | .setKey _ _ _, _ => .free
  | .clearKey _ _, _ => .free
  | .setRecovery _ _, _ => .free
  | _, other => other

theorem State.leaveTableState_eq (s : State) (cmd : QueuedCommand) :
    s.leaveTableState cmd = { s with tableState := s.tableStateWithout cmd } := by
  cases cmd with
  | commit =>
    unfold State.leaveTableState State.tableStateWithout
    cases table : s.tableState <;> simp [← table]
  | _ => rfl

/-- The record of an aborted table job without blocks: only that of COMMIT has the generation. -/
theorem State.endRecord_job_aborted (s : State) (e : Entry) (due : Bool) :
    (e.cmd = .commit → s.endRecord e (.job due) .aborted =
      { Completion.bare e.tag 6 .aborted with generation := some s.live.generation }) ∧
    (∀ i key mode, e.cmd = .setKey i key mode →
      s.endRecord e (.job due) .aborted = { Completion.bare e.tag 8 .aborted with partition := some i }) ∧
    (∀ i key, e.cmd = .clearKey i key →
      s.endRecord e (.job due) .aborted = { Completion.bare e.tag 9 .aborted with partition := some i }) ∧
    ∀ key old, e.cmd = .setRecovery key old →
      s.endRecord e (.job due) .aborted = Completion.bare e.tag 10 .aborted := by
  refine ⟨fun cmd => ?_, fun i key mode cmd => ?_, fun i key cmd => ?_, fun key old cmd => ?_⟩
  all_goals
    unfold State.endRecord
    rw [cmd]
    rfl

/-- The ACTIVE entry becomes abort pending at the head of the queue. -/
theorem PortUnit.setActive_of_active {u : PortUnit} {e : Entry} {a : Active} (active : u.activeEntry = some (e, a))
    (b : Active) : u.setActive b = { u with queue := { e with active := some b } :: u.queue.tail } := by
  obtain ⟨queue, -⟩ := PortUnit.queue_of_activeEntry active
  unfold PortUnit.setActive
  rw [queue]
  rfl

/-- Settles O36: with a segment of its own in flight the entry is abort pending; else it ends, and the table state is
left. -/
theorem abortEndsTheActiveEntry : Obligations.AbortEndsTheActiveEntry := by
  refine ⟨fun s e i n m which key mode old due => ?_, fun s p e a made active named =>
    ⟨fun own => ?_, fun free => ?_⟩⟩
  · obtain ⟨commit, setKey, clearKey, setRecovery⟩ := s.endRecord_job_aborted e due
    exact ⟨fun r cmd => s.endRecord_read cmd r .aborted, fun c cmd => s.endRecord_check cmd c .aborted,
      fun w cmd => s.endRecord_write cmd w .aborted, fun b cmd => s.endRecord_blank cmd b .aborted,
      fun k cmd => s.endRecord_wipe_aborted cmd k, commit, setKey i key mode, clearKey i key, setRecovery key old⟩
  · rw [exec_abort made, State.abort_of_active named active rfl, State.abortActive, if_pos own, State.answer,
      State.updPort_updPort, State.updPort,
      PortUnit.setActive_of_active active]
  · rw [exec_abort made, State.abort_of_active named active rfl, State.abortActive, if_neg (by simp [free]),
      State.finish_eq_endedWith _ active, State.leaveTableState_eq]
    rfl

end Sys2Proof.Machine

namespace Sys2Proof.Machine

/-! ### The start checks (R65, R133, R146, R149, R151) -/

theorem Partition.writtenBy_iff (x : Partition) (p : Port) : x.writtenBy p = true ↔ x.writer = some p := by
  simp [Partition.writtenBy]

theorem State.unlocked_iff (s : State) (p : Port) (i : Index) (x : Partition) :
    s.unlocked p i x = true ↔ x.lock = none ∨ (s.openSets[i]).get p = true := by
  simp [State.unlocked]

section

variable {s : State} {p : Port} {i : Index} {x : Partition} {access fits : Bool}

theorem State.dataChecks_of_noAccess (denied : access = false) : s.dataChecks p i x access fits = some .noAccess := by
  rw [State.dataChecks, denied]
  rfl

theorem State.dataChecks_of_locked (admits : access = true) (locked : s.unlocked p i x = false) :
    s.dataChecks p i x access fits = some .locked := by
  rw [State.dataChecks, admits, locked]
  rfl

theorem State.dataChecks_of_outOfRange (admits : access = true) (unlocked : s.unlocked p i x = true)
    (beyond : fits = false) : s.dataChecks p i x access fits = some .outOfRange := by
  rw [State.dataChecks, admits, unlocked, beyond]
  rfl

theorem State.dataChecks_of_pass (admits : access = true) (unlocked : s.unlocked p i x = true) (within : fits = true) :
    s.dataChecks p i x access fits = none := by
  rw [State.dataChecks, admits, unlocked, within]
  rfl

end

/-- The access that a command asks for: READ, CHECK and OPEN that the port is permitted, the others that it writes
(R65). -/
def QueuedCommand.admitted (c : QueuedCommand) (x : Partition) (p : Port) : Bool :=
  match c with
  | .read _ _ _ => x.permits p
  | .check _ _ _ => x.permits p
  | .openKey _ _ _ => x.permits p
  | _ => x.writtenBy p

/-- Whether the range of a data command lies in its partition, and the progress it becomes ACTIVE with (R65, R66). -/
def State.dataStart (s : State) (x : Partition) : QueuedCommand → Option (Bool × Progress)
  | .read i start count =>
    some (decide (start + count ≤ x.blockCount * 16),
      .read { nextSector := start, sectorsRead := 0, readingClosed := false, failAt := none, sectorsDone := 0,
              blankMet := 0, genStart := s.counts[i] })
  | .check _ start count =>
    some (decide (start + count ≤ x.blockCount * 16),
      .check { nextSector := start, sectorsDone := 0, blankMet := 0, damagedMet := 0, firstDamaged := none })
  | .write _ start count =>
    some (decide (start + count ≤ x.blockCount * 16), .write { nextSector := start, sectorsDone := 0, failAt := none })
  | .blank _ first count =>
    some (decide (first + count ≤ x.blockCount), .blank { nextBlock := first, blocksDone := 0 })
  | _ => none

section

variable {s : State} {p : Port} {i : Index} {x : Partition} {c : QueuedCommand} (names : c.part = some i)

include names

theorem State.startOutcome_of_notDefined (free : s.live.records[i] = none) :
    s.startOutcome p c = .ends .notDefined := by
  have record : s.record i = none := free
  cases c with
  | commit | setRecovery _ _ => cases names
  | _ =>
    cases names
    simp only [State.startOutcome, State.startRead, State.startCheck, State.startWrite, State.startBlank,
      State.startWipe, State.startOpen, State.startSetKey, State.startClearKey, record]

variable (holds : s.live.records[i] = some x)

include holds

/-- Access is the first check on a defined partition. -/
theorem State.startOutcome_of_noAccess (denied : c.admitted x p = false) :
    s.startOutcome p c = .ends .noAccess := by
  have record : s.record i = some x := holds
  cases c with
  | commit | setRecovery _ _ => cases names
  | openKey _ _ _ =>
    cases names
    replace denied : x.permits p = false := denied
    simp only [State.startOutcome, State.startOpen, record, denied, Bool.false_eq_true, if_false]
  | read _ _ _ | check _ _ _ =>
    cases names
    replace denied : x.permits p = false := denied
    simp only [State.startOutcome, State.startRead, State.startCheck, record, State.dataChecks_of_noAccess denied, orRuns]
  | _ =>
    cases names
    replace denied : x.writtenBy p = false := denied
    simp only [State.startOutcome, State.startWrite, State.startBlank, State.startWipe, State.startSetKey,
      State.startClearKey, record, State.dataChecks, denied, require, Bool.false_eq_true, if_false, firstFailing, orRuns]

/-- A data command starts with the three checks of R65. -/
theorem State.startOutcome_of_data {fits : Bool} {pr : Progress} (data : s.dataStart x c = some (fits, pr)) :
    s.startOutcome p c = orRuns (s.dataChecks p i x (c.admitted x p) fits) pr := by
  have record : s.record i = some x := holds
  cases c with
  | read _ _ _ | check _ _ _ | write _ _ _ | blank _ _ _ =>
    cases names
    cases data
    simp only [State.startOutcome, State.startRead, State.startCheck, State.startWrite, State.startBlank, record]
    rfl
  | _ => cases data

end

/-- SET KEY on a keyed partition that is not open (R149). -/
theorem State.startOutcome_of_setKey_locked {s : State} {p : Port} {i : Index} {x : Partition}
    (holds : s.live.records[i] = some x) (key : Key) (mode : KeyMode) (writes : x.writtenBy p = true)
    (locked : s.unlocked p i x = false) : s.startOutcome p (.setKey i key mode) = .ends .locked := by
  have record : s.record i = some x := holds
  simp only [State.startOutcome, State.startSetKey, record, writes, locked, require, Bool.false_eq_true, if_true,
    if_false, firstFailing, orRuns]

/-! ### What a start does when a check fails or all pass -/

theorem State.openIfMatched_of_not_ok {st : Status} (fails : st ≠ .ok) (s : State) (p : Port) (cmd : QueuedCommand) :
    s.openIfMatched p cmd st = s := by
  unfold State.openIfMatched
  cases cmd with
  | openKey i which key => cases record : s.record i <;> simp [fails, record]
  | _ => rfl

theorem State.startRecord_of_part {s : State} {e : Entry} {i : Index} (names : e.cmd.part = some i) (st : Status) :
    s.startRecord e st = startRecordOf e.tag e.cmd.code st (some i) := by
  unfold State.startRecord
  rw [names]
  cases cmd : e.cmd with
  | commit =>
    rw [cmd] at names
    cases names
  | _ => rfl

theorem State.not_holdsTable_of_dataStart (s : State) {x : Partition} {c : QueuedCommand} {start : Bool × Progress}
    (data : s.dataStart x c = some start) : c.holdsTable = false := by
  cases c with
  | read _ _ _ | check _ _ _ | write _ _ _ | blank _ _ _ => rfl
  | _ => cases data

section

variable {s : State} {p : Port} {e : Entry} {rest : List Entry} (ready : s.startReady p e rest)

include ready

/-- A failing check ends the command at once with its status and the partition it names (R66). -/
theorem exec_commandStart_of_fails {i : Index} {st : Status} (fails : st ≠ .ok) (spared : st ≠ .keyMismatch)
    (names : e.cmd.part = some i) (ends : s.startOutcome p e.cmd = .ends st) :
    exec (.commandStart p) s = .next (s.startEnded p rest (startRecordOf e.tag e.cmd.code st (some i))).settle := by
  rw [exec_commandStart_of_ends ready ends spared, State.openIfMatched_of_not_ok fails, State.startRecord_of_part names]

/-- A data command that passes its checks becomes ACTIVE (R66). -/
theorem exec_commandStart_of_data {i : Index} {x : Partition} {c : QueuedCommand} {pr : Progress}
    (holds : s.live.records[i] = some x) (opened : x.lock = none ∨ (s.openSets[i]).get p = true) (is : e.cmd = c)
    (admits : c.admitted x p = true) (names : c.part = some i) (data : s.dataStart x c = some (true, pr)) :
    exec (.commandStart p) s = .next (s.startActive p e rest pr).settle := by
  subst is
  have runs : s.startOutcome p e.cmd = .runs pr := by
    rw [State.startOutcome_of_data names holds data,
      State.dataChecks_of_pass admits ((s.unlocked_iff p i x).mpr opened) rfl]
    rfl
  rw [exec_commandStart_of_runs ready runs, State.enterTableState_of_not_holds (s.not_holdsTable_of_dataStart data)]

end

/-- Settles O45: the four data commands pass their checks. -/
theorem dataCommandsBecomeActive : Obligations.DataCommandsBecomeActive := by
  intro s p e rest i n m x ready holds opened
  refine ⟨fun access fits => ?_, fun writes => ?_⟩
  · have permits : x.permits p = true := (x.permits_iff p).mpr access
    refine ⟨fun cmd => ?_, fun cmd => ?_⟩
    · exact exec_commandStart_of_data ready holds opened cmd permits rfl (by rw [State.dataStart, decide_eq_true fits])
    · exact exec_commandStart_of_data ready holds opened cmd permits rfl (by rw [State.dataStart, decide_eq_true fits])
  · have written : x.writtenBy p = true := (x.writtenBy_iff p).mpr writes
    refine ⟨fun fits cmd => ?_, fun fits cmd => ?_⟩
    · exact exec_commandStart_of_data ready holds opened cmd written rfl (by rw [State.dataStart, decide_eq_true fits])
    · exact exec_commandStart_of_data ready holds opened cmd written rfl (by rw [State.dataStart, decide_eq_true fits])

/-- Settles O44: the outcome of the start is the first check that fails. -/
theorem startChecksFailInOrder : Obligations.StartChecksFailInOrder := by
  intro s p e rest i n m which key mode ready fails fails_iff
  have ends : ∀ {c st}, c.part = some i → s.startOutcome p c = .ends st → st ≠ .ok → st ≠ .keyMismatch →
      e.cmd = c → fails c.code st := by
    rintro c st names outcome failing spared rfl
    exact (fails_iff _ _).mpr (exec_commandStart_of_fails ready failing spared names outcome)
  refine ⟨fun free => ?_, fun x holds => ?_⟩
  · have undefined : ∀ c, c.part = some i → e.cmd = c → fails c.code .notDefined := fun c names =>
      ends names (State.startOutcome_of_notDefined names free) (by simp) (by simp)
    exact ⟨undefined _ rfl, undefined _ rfl, undefined _ rfl, undefined _ rfl, undefined _ rfl, undefined _ rfl,
      undefined _ rfl, undefined _ rfl⟩
  have denied : ∀ c, c.part = some i → c.admitted x p = false → e.cmd = c → fails c.code .noAccess := fun c names no =>
    ends names (State.startOutcome_of_noAccess names holds no) (by simp) (by simp)
  have locked : ∀ c, c.part = some i → (s.dataStart x c).isSome = true → c.admitted x p = true →
      s.unlocked p i x = false → e.cmd = c → fails c.code .locked := by
    intro c names data admits closed
    obtain ⟨⟨fits, pr⟩, data⟩ := Option.isSome_iff_exists.mp data
    refine ends names ?_ (by simp) (by simp)
    rw [State.startOutcome_of_data names holds data, State.dataChecks_of_locked admits closed]
    rfl
  have outOfRange : ∀ c pr, c.part = some i → s.dataStart x c = some (false, pr) → c.admitted x p = true →
      s.unlocked p i x = true → e.cmd = c → fails c.code .outOfRange := by
    intro c pr names data admits opened
    refine ends names ?_ (by simp) (by simp)
    rw [State.startOutcome_of_data names holds data, State.dataChecks_of_outOfRange admits opened rfl]
    rfl
  have permitted : x.writer = some p ∨ x.readers.get p = true → x.permits p = true := (x.permits_iff p).mpr
  have written : x.writer = some p → x.writtenBy p = true := (x.writtenBy_iff p).mpr
  refine ⟨fun notWriter notReader => ?_, fun notWriter => ?_, fun keyed closed => ?_, fun opened => ?_⟩
  · have barred : x.permits p = false := by simp [Partition.permits, notWriter, notReader]
    exact ⟨denied _ rfl barred, denied _ rfl barred, denied _ rfl barred⟩
  · have barred : x.writtenBy p = false := by simp [Partition.writtenBy, notWriter]
    exact ⟨denied _ rfl barred, denied _ rfl barred, denied _ rfl barred, denied _ rfl barred, denied _ rfl barred⟩
  · have shut : s.unlocked p i x = false := Bool.eq_false_iff.mpr fun opened =>
      ((s.unlocked_iff p i x).mp opened).elim keyed (Bool.eq_false_iff.mp closed)
    refine ⟨fun access => ⟨locked _ rfl rfl (permitted access) shut, locked _ rfl rfl (permitted access) shut⟩,
      fun writes => ⟨locked _ rfl rfl (written writes) shut, locked _ rfl rfl (written writes) shut, ?_⟩⟩
    exact ends (c := .setKey i key mode) rfl (State.startOutcome_of_setKey_locked holds key mode (written writes) shut)
      (by simp) (by simp)
  · have unlocked : s.unlocked p i x = true := (s.unlocked_iff p i x).mpr opened
    refine ⟨fun access beyond => ?_, fun writes => ⟨fun beyond => ?_, fun beyond => ?_⟩⟩
    · have outside : decide (n + m ≤ x.blockCount * 16) = false := decide_eq_false (Nat.not_le.mpr beyond)
      exact ⟨outOfRange _ _ rfl (by rw [State.dataStart, outside]) (permitted access) unlocked,
        outOfRange _ _ rfl (by rw [State.dataStart, outside]) (permitted access) unlocked⟩
    · have outside : decide (n + m ≤ x.blockCount * 16) = false := decide_eq_false (Nat.not_le.mpr beyond)
      exact outOfRange _ _ rfl (by rw [State.dataStart, outside]) (written writes) unlocked
    · have outside : decide (n + m ≤ x.blockCount) = false := decide_eq_false (Nat.not_le.mpr beyond)
      exact outOfRange _ _ rfl (by rw [State.dataStart, outside]) (written writes) unlocked

end Sys2Proof.Machine

namespace Sys2Proof.Machine

/-! ### The segment of an entry that a port reset removed (R73) -/

theorem State.removedSegment_iff (s : State) (p : Port) :
    s.removedSegment p = true ↔ ∃ g, s.inFlight = some (.segment g) ∧ g.port = p ∧ g.removed = true := by
  unfold State.removedSegment
  split
  all_goals
    rename_i flight
    simp [flight]

/-! ### Eligibility (R69) -/

/-- The conditions of R69, with the addresses of R108, R119, R124, R130 and R134. -/
def State.WorkDue (s : State) (p : Port) (e : Entry) (a : Active) (w : Work) : Prop :=
  (∃ i x, s.live.records[i] = some x ∧
    ((∃ n m r, e.cmd = .read i n m ∧ a.progress = .read r ∧ r.readingClosed = false ∧ s.mayTake p = true ∧
        w = .readSector (x.firstBlock * 16 + r.nextSector)) ∨
      (∃ n m c, e.cmd = .check i n m ∧ a.progress = .check c ∧ c.sectorsDone < m ∧
        w = .readSector (x.firstBlock * 16 + c.nextSector)) ∨
      (∃ n m k b rest, e.cmd = .write i n m ∧ a.progress = .write k ∧ k.sectorsDone < m ∧
        (s.port p).transfers = b :: rest ∧ b.state = .full ∧
        w = .programSector (x.firstBlock * 16 + k.nextSector) b.data) ∨
      (∃ n m k, e.cmd = .blank i n m ∧ a.progress = .blank k ∧ k.blocksDone < m ∧
        w = .blankBlock (x.firstBlock + k.nextBlock)) ∨
      (∃ which key k, e.cmd = .wipe i which key ∧ a.progress = .wipe k ∧
        ((k.blocksDone < x.blockCount ∧ w = .blankBlock (x.firstBlock + k.nextBlock)) ∨
          (x.blockCount ≤ k.blocksDone ∧ k.tableDue = true ∧ w = .tableBlank (s.composed e.cmd)))))) ∨
  (a.progress = .job true ∧ w = .tableBlank (s.composed e.cmd) ∧
    (e.cmd = .commit ∨ (∃ i key mode, e.cmd = .setKey i key mode) ∨ (∃ i key, e.cmd = .clearKey i key) ∨
      ∃ new old, e.cmd = .setRecovery new old))

section

variable {s : State} {p : Port} {e : Entry} {a : Active} {w : Work}

theorem State.workDue_of_workOf (work : s.workOf p e a = some w) : s.WorkDue p e a w := by
  unfold State.workOf at work
  split at work
  case h_10 => cases work
  case h_1 i n m r cmd progress =>
    split at work
    · cases work
    · rename_i x record
      obtain ⟨may, eq⟩ := Option.ite_none_right_eq_some.mp work
      obtain ⟨reading, take⟩ : r.readingClosed = false ∧ s.mayTake p = true := by simpa using may
      exact .inl ⟨i, x, record, .inl ⟨n, m, r, cmd, progress, reading, take, (Option.some.inj eq).symm⟩⟩
  case h_2 i n m c cmd progress =>
    split at work
    · cases work
    · rename_i x record
      obtain ⟨more, eq⟩ := Option.ite_none_right_eq_some.mp work
      exact .inl ⟨i, x, record, .inr (.inl ⟨n, m, c, cmd, progress, more, (Option.some.inj eq).symm⟩)⟩
  case h_3 i n m k cmd progress =>
    split at work
    · cases work
    · rename_i x record
      obtain ⟨may, eq⟩ := Option.ite_none_right_eq_some.mp work
      obtain ⟨more, full⟩ := Bool.and_eq_true_iff.mp may
      obtain ⟨b, rest, transfers, state⟩ := ((s.port p).oldestIs_iff .full).mp full
      rw [PortUnit.oldestData, transfers] at eq
      exact .inl ⟨i, x, record, .inr (.inr (.inl
        ⟨n, m, k, b, rest, cmd, progress, of_decide_eq_true more, transfers, state, (Option.some.inj eq).symm⟩))⟩
  case h_4 i n m k cmd progress =>
    split at work
    · cases work
    · rename_i x record
      obtain ⟨more, eq⟩ := Option.ite_none_right_eq_some.mp work
      exact .inl ⟨i, x, record, .inr (.inr (.inr (.inl ⟨n, m, k, cmd, progress, more, (Option.some.inj eq).symm⟩)))⟩
  case h_5 i which key k cmd progress =>
    have wipe : ∀ x, s.live.records[i] = some x →
        (k.blocksDone < x.blockCount ∧ w = .blankBlock (x.firstBlock + k.nextBlock)) ∨
          (x.blockCount ≤ k.blocksDone ∧ k.tableDue = true ∧ w = .tableBlank (s.composed e.cmd)) →
        s.WorkDue p e a w := fun x record due =>
      .inl ⟨i, x, record, .inr (.inr (.inr (.inr ⟨which, key, k, cmd, progress, due⟩)))⟩
    split at work
    · cases work
    · rename_i x record
      split at work
      · rename_i more
        exact wipe x record (.inl ⟨more, (Option.some.inj work).symm⟩)
      · rename_i done
        obtain ⟨due, eq⟩ := Option.ite_none_right_eq_some.mp work
        exact wipe x record (.inr ⟨Nat.not_lt.mp done, due, (Option.some.inj eq).symm⟩)
  all_goals
    rename_i cmd progress
    obtain ⟨rfl, eq⟩ := Option.ite_none_right_eq_some.mp work
    exact .inr ⟨progress, (Option.some.inj eq).symm, by simp [cmd]⟩

theorem State.workOf_of_workDue (due : s.WorkDue p e a w) : s.workOf p e a = some w := by
  obtain ⟨i, x, record, data⟩ | ⟨progress, rfl, job⟩ := due
  · replace record : s.record i = some x := record
    obtain ⟨n, m, r, cmd, progress, reading, take, rfl⟩ | ⟨n, m, c, cmd, progress, more, rfl⟩ |
      ⟨n, m, k, b, rest, cmd, progress, more, transfers, full, rfl⟩ | ⟨n, m, k, cmd, progress, more, rfl⟩ |
      ⟨which, key, k, cmd, progress, wipe⟩ := data
    · simp [State.workOf, cmd, progress, record, reading, take, Config.blockSectors]
    · simp [State.workOf, cmd, progress, record, more, Config.blockSectors]
    · have oldest : (s.port p).oldestIs .full = true := ((s.port p).oldestIs_iff .full).mpr ⟨b, rest, transfers, full⟩
      simp [State.workOf, cmd, progress, record, more, oldest, PortUnit.oldestData, transfers, Config.blockSectors]
    · simp [State.workOf, cmd, progress, record, more]
    · obtain ⟨more, rfl⟩ | ⟨done, table, rfl⟩ := wipe
      · simp [State.workOf, cmd, progress, record, more]
      · simp [State.workOf, cmd, progress, record, Nat.not_lt.mpr done, table]
  · obtain cmd | ⟨i, key, mode, cmd⟩ | ⟨i, key, cmd⟩ | ⟨new, old, cmd⟩ := job
    all_goals simp [State.workOf, cmd, progress]

theorem State.nextWork_iff :
    s.nextWork p = some (e, a, w) ↔
      (s.port p).activeEntry = some (e, a) ∧ s.ownSegment p = false ∧ s.WorkDue p e a w := by
  constructor
  · intro next
    obtain ⟨active, own, work⟩ := State.nextWork_eq_some next
    exact ⟨active, own, State.workDue_of_workOf work⟩
  · rintro ⟨active, own, due⟩
    simp [State.nextWork, active, own, State.workOf_of_workDue due]

end

/-! ### The arbiter's choice (R72) -/

theorem nextPort_nextPort_nextPort (p : Port) : nextPort (nextPort (nextPort p)) = p := by cases p <;> rfl

/-- The first eligible port after the last granted one. -/
def State.FirstAfter (s : State) (p : Port) : Prop :=
  p = nextPort s.lastGranted ∨
    (p = nextPort (nextPort s.lastGranted) ∧ s.eligible (nextPort s.lastGranted) = false) ∨
    (p = s.lastGranted ∧ s.eligible (nextPort s.lastGranted) = false ∧
      s.eligible (nextPort (nextPort s.lastGranted)) = false)

theorem State.grantee_iff (s : State) (p : Port) :
    s.grantee = some p ↔ s.eligible p = true ∧ s.FirstAfter p := by
  simp only [State.grantee, nextPort_nextPort_nextPort, State.FirstAfter]
  cases first : s.eligible (nextPort s.lastGranted) with
  | true =>
    simp only [if_true, Option.some.injEq, Bool.true_eq_false, and_false, false_and, or_false]
    constructor
    · rintro rfl
      exact ⟨first, rfl⟩
    · rintro ⟨-, rfl⟩
      rfl
  | false =>
    simp only [Bool.false_eq_true, if_false, true_and, and_true]
    cases second : s.eligible (nextPort (nextPort s.lastGranted)) with
    | true =>
      simp only [if_true, Option.some.injEq, Bool.true_eq_false, and_false, or_false]
      constructor
      · rintro rfl
        exact ⟨second, .inr rfl⟩
      · rintro ⟨eligible, rfl | rfl⟩
        · simp [first] at eligible
        · rfl
    | false =>
      simp only [Bool.false_eq_true, if_false, Option.ite_none_right_eq_some, Option.some.injEq, and_true]
      constructor
      · rintro ⟨third, rfl⟩
        exact ⟨third, .inr (.inr rfl)⟩
      · rintro ⟨eligible, rfl | rfl | rfl⟩
        · simp [first] at eligible
        · simp [second] at eligible
        · exact ⟨eligible, rfl⟩

/-! ### The grant -/

theorem exec_segmentGrant_of_idle {s : State}
    (idle : s.inFlight ≠ none ∨ s.part = .loading ∨ s.power ≠ .ready ∨
      (s.eligible .a = false ∧ s.eligible .b = false ∧ s.eligible .c = false)) :
    exec .segmentGrant s = .next s := by
  show execSegmentGrant s = _
  unfold execSegmentGrant
  split
  · rename_i may
    obtain ⟨landed, ready, power⟩ := s.mayGrant_iff.mp may
    obtain flight | loading | off | ⟨a, b, c⟩ := idle
    · exact absurd landed flight
    · simp [ready] at loading
    · exact absurd power off
    · have none : s.grantee = none := by
        rw [← Option.isNone_iff_eq_none, ← Option.isSome_eq_false_iff, State.grantee_isSome, State.anyEligible, a, b, c]
        rfl
      rw [none]
  · rfl

theorem exec_segmentGrant_of_grantee {s : State} {p : Port} {e : Entry} {a : Active} {w : Work} (may : s.mayGrant = true)
    (grantee : s.grantee = some p) (next : s.nextWork p = some (e, a, w)) (inside : w.inArray = true) :
    exec .segmentGrant s = .next (s.grant p e a w) := by
  show execSegmentGrant s = _
  simp only [execSegmentGrant, may, if_true, grantee, next, inside]

theorem Work.inArray_of_bounds {w : Work} (read : ∀ n, w = .readSector n → n < 16384)
    (program : ∀ n d, w = .programSector n d → n < 16384) (blank : ∀ b, w = .blankBlock b → b < 1024) :
    w.inArray = true := by
  cases w with
  | readSector n => exact decide_eq_true (read n rfl)
  | programSector n d => exact decide_eq_true (program n d rfl)
  | blankBlock b => exact decide_eq_true (blank b rfl)
  | _ => rfl

theorem State.refusesTable_of_spare {s : State} {w : Work}
    (spare : ∀ new, w = .tableBlank new → s.live.generation ≠ 0xFFFFFFFF) : s.refusesTable w = false := by
  cases w with
  | tableBlank new => exact decide_eq_false (spare new rfl)
  | _ => rfl

theorem State.grant_of_not_refused {s : State} {w : Work} (p : Port) (e : Entry) (a : Active)
    (admits : s.refusesTable w = false) :
    s.grant p e a w =
      ({ s with lastGranted := p,
                inFlight := some (.segment { port := p, cmd := e.cmd, removed := false, work := w }) }.updPort p
        fun u => u.mount a.progress).settle := by
  rw [State.grant, admits, if_neg Bool.false_ne_true]

/-! ### A prompt grant (log 4) -/

theorem State.not_mayStart_of_promptGrant {s : State} {rest : List Instr} (prompt : s.prompt = true)
    (pending : s.pending = .segmentGrant :: rest) (p : Port) : s.mayStart p = false := by
  have due : s.anyStartDue = false := by
    refine Bool.eq_false_iff.mpr fun due => ?_
    simp [State.prompt, due, pending] at prompt
  simp only [State.anyStartDue, State.startDue, Bool.or_eq_false_iff] at due
  obtain ⟨⟨a, b⟩, c⟩ := due
  cases p <;> assumption

/-- What keeps an entry from starting (R64). -/
theorem State.blocked_of_not_mayStart {s : State} {p : Port} (h : s.mayStart p = false) :
    s.part = .loading ∨ (s.port p).queue = [] ∨ (∃ e ∈ (s.port p).queue, e.active ≠ none) ∨
      8 ≤ (s.port p).completions.length + (s.port p).reserved := by
  by_contra free
  simp only [not_or, not_exists, not_and, not_not, Nat.not_le] at free
  obtain ⟨notLoading, entry, queued, slot⟩ := free
  have ready : s.part = .ready := by
    cases part : s.part with
    | ready => rfl
    | loading => exact absurd part notLoading
  exact Bool.eq_false_iff.mp h ((s.mayStart_iff p).mpr ⟨ready, entry, queued, slot⟩)

/-- Settles O49: the eligible ports by R69's conditions, the arbiter's choice, and its grant. -/
theorem grantsGoRoundRobin : Obligations.GrantsGoRoundRobin := by
  refine ⟨fun s p => ⟨s.ownSegment_iff p, s.removedSegment_iff p, ?_, s.grantee_iff p, fun e a w => State.nextWork_iff⟩,
    fun s rest prompt pending p => ?_, fun s => ⟨exec_segmentGrant_of_idle, ?_⟩⟩
  · simp [State.eligible_iff]
  · exact State.blocked_of_not_mayStart (State.not_mayStart_of_promptGrant prompt pending p)
  · intro idle part power q e a w next first read program blank spare
    have may : s.mayGrant = true := s.mayGrant_iff.mpr ⟨idle, part, power⟩
    have eligible : s.eligible q = true := (s.eligible_iff q).mpr ⟨_, next⟩
    refine ⟨_, exec_segmentGrant_of_grantee may ((s.grantee_iff q).mpr ⟨eligible, first⟩) next
      (Work.inArray_of_bounds read program blank), ?_⟩
    rw [State.grant_of_not_refused q e a (State.refusesTable_of_spare spare)]
    refine ⟨by simp, by simp, by simp, by simp, by simp, fun r other => ?_⟩
    rw [State.queue_settle, State.transfers_settle, State.port_updPort_of_ne _ _ other]
    exact ⟨rfl, rfl⟩

end Sys2Proof.Machine

namespace Sys2Proof.Machine

/-! ### What a change leaves of the pool and of the SETUP figures (R13, R79, R85, R87, R101, R144) -/

/-- The five values that SETUP sets (R180). -/
structure SetupFigures where
  transferUnit : Nat
  stallSetting : Nat
  vote : Nat
  guarantee : Nat
  limit : Nat

/-- The SETUP figures of a port. -/
def PortUnit.setup (u : PortUnit) : SetupFigures :=
  { transferUnit := u.transferUnit, stallSetting := u.stallSetting, vote := u.vote, guarantee := u.guarantee,
    limit := u.limit }

/-- From `u` to `v` nothing changes of the SETUP figures, the budget, the ACTIVE command and the transfer list. -/
structure PortUnit.SamePool (u v : PortUnit) : Prop where
  setup : v.setup = u.setup
  budget : v.budget = u.budget
  activeCommand : v.activeCommand = u.activeCommand
  transfers : v.transfers = u.transfers

/-- From `u` to `v` the SETUP figures stay, no buffer is taken and the budget does not rise. -/
structure PortUnit.Frees (u v : PortUnit) : Prop where
  setup : v.setup = u.setup
  budget : v.budget ≤ u.budget
  holding : v.holding ≤ u.holding

theorem PortUnit.SamePool.refl (u : PortUnit) : u.SamePool u := ⟨rfl, rfl, rfl, rfl⟩

theorem PortUnit.SamePool.trans {u v w : PortUnit} (h : u.SamePool v) (k : v.SamePool w) : u.SamePool w :=
  ⟨k.setup.trans h.setup, k.budget.trans h.budget, k.activeCommand.trans h.activeCommand, k.transfers.trans h.transfers⟩

theorem PortUnit.SamePool.frees {u v : PortUnit} (h : u.SamePool v) : u.Frees v :=
  ⟨h.setup, h.budget.le, (congrArg List.length h.transfers).le⟩

theorem PortUnit.Frees.refl (u : PortUnit) : u.Frees u := ⟨rfl, le_rfl, le_rfl⟩

theorem PortUnit.Frees.trans {u v w : PortUnit} (h : u.Frees v) (k : v.Frees w) : u.Frees w :=
  ⟨k.setup.trans h.setup, k.budget.trans h.budget, k.holding.trans h.holding⟩

/-- An issue leaves the ACTIVE entry: the one it appends is QUEUED. -/
theorem PortUnit.samePool_issueQueued (u : PortUnit) (tag : Byte) (given : Option QueuedCommand) :
    u.SamePool (u.issueQueued tag given) := by
  have same := u.sameTimers_issueQueued tag given
  obtain ⟨setup, budget⟩ : (u.issueQueued tag given).setup = u.setup ∧
      (u.issueQueued tag given).budget = u.budget := by
    unfold PortUnit.issueQueued
    repeat' split
    all_goals exact ⟨rfl, rfl⟩
  exact ⟨setup, budget, by rw [PortUnit.activeCommand, same.activeEntry, PortUnit.activeCommand], same.transfers⟩

theorem PortUnit.samePool_pop (u : PortUnit) : u.SamePool u.pop := by
  unfold PortUnit.pop
  split <;> exact ⟨rfl, rfl, rfl, rfl⟩

/-- The ACTIVE entry's progress and its ABORT are beside the pool. -/
theorem PortUnit.samePool_setActive (u : PortUnit) {e : Entry} {a : Active} (active : u.activeEntry = some (e, a))
    (b : Active) : u.SamePool (u.setActive b) := by
  have command : (u.setActive b).activeCommand = u.activeCommand := by
    rw [PortUnit.activeCommand, PortUnit.activeEntry_cons _ _ _ (PortUnit.queue_setActive active b),
      PortUnit.activeCommand_of_active active]
    rfl
  refine ⟨?_, ?_, command, ?_⟩
  all_goals
    unfold PortUnit.setActive
    split <;> rfl

theorem PortUnit.samePool_setProgress (u : PortUnit) (pr : Progress) : u.SamePool (u.setProgress pr) := by
  unfold PortUnit.setProgress
  split
  · exact .refl u
  · rename_i active
    exact u.samePool_setActive active _

/-- From `s` to `t` the operation in flight stays, and each port's part of the pool. -/
structure State.SamePool (s t : State) : Prop where
  inFlight : t.inFlight = s.inFlight
  port : ∀ p, (s.port p).SamePool (t.port p)

theorem State.SamePool.refl (s : State) : s.SamePool s := ⟨rfl, fun _ => .refl _⟩

theorem State.SamePool.trans {s t u : State} (h : s.SamePool t) (k : t.SamePool u) : s.SamePool u :=
  ⟨k.inFlight.trans h.inFlight, fun p => (h.port p).trans (k.port p)⟩

theorem State.samePool_settle (s : State) : s.SamePool s.settle where
  inFlight := s.inFlight_settle
  port p := by
    rw [State.port_settle]
    exact ⟨rfl, rfl, rfl, rfl⟩

/-- The table state, the hold, the open sets and one port unit change, the latter beside the pool. -/
theorem State.samePool_updPort_with (s : State) (tableState : TableState) (held : Bool) (openSets : PerIndex PortSet)
    {p : Port} {f : PortUnit → PortUnit} (h : (s.port p).SamePool (f (s.port p))) :
    s.SamePool ({ s with tableState := tableState, held := held, openSets := openSets }.updPort p f) := by
  refine ⟨rfl, fun q => ?_⟩
  show (s.port q).SamePool ((s.updPort p f).port q)
  by_cases here : q = p
  · subst here
    rwa [State.port_updPort_same]
  · rw [State.port_updPort_of_ne _ _ here]
    exact .refl _

theorem State.samePool_updPort (s : State) {p : Port} {f : PortUnit → PortUnit}
    (h : (s.port p).SamePool (f (s.port p))) : s.SamePool (s.updPort p f) :=
  s.samePool_updPort_with s.tableState s.held s.openSets h

theorem State.samePool_answer_with (s : State) (tableState : TableState) (held : Bool) (openSets : PerIndex PortSet)
    (p : Port) (ws : Vector Word 8) :
    s.SamePool ({ s with tableState := tableState, held := held, openSets := openSets }.answer p ws) :=
  s.samePool_updPort_with _ _ _ ⟨rfl, rfl, rfl, rfl⟩

theorem State.samePool_answer (s : State) (p : Port) (ws : Vector Word 8) : s.SamePool (s.answer p ws) :=
  s.samePool_updPort ⟨rfl, rfl, rfl, rfl⟩

theorem State.samePool_setProgress (s : State) (p : Port) (pr : Progress) :
    s.SamePool (s.updPort p fun u => u.setProgress pr) :=
  s.samePool_updPort (PortUnit.samePool_setProgress _ pr)

theorem State.samePool_leaveTableState (s : State) (cmd : QueuedCommand) : s.SamePool (s.leaveTableState cmd) :=
  ⟨(s.sameCourse_leaveTableState cmd).inFlight, fun p => by rw [State.port_leaveTableState]; exact .refl _⟩

theorem State.samePool_enterTableState (s : State) (p : Port) (cmd : QueuedCommand) :
    s.SamePool (s.enterTableState p cmd) :=
  ⟨(s.sameCourse_enterTableState p cmd).inFlight, fun q => by rw [State.port_enterTableState]; exact .refl _⟩

theorem State.samePool_openIfMatched (s : State) (p : Port) (cmd : QueuedCommand) (st : Status) :
    s.SamePool (s.openIfMatched p cmd st) := by
  unfold State.openIfMatched
  repeat' split
  all_goals exact ⟨rfl, fun _ => .refl _⟩

theorem State.samePool_riseCount (s : State) (i : Index) (p : Port) : s.SamePool (s.riseCount i p) := by
  refine ⟨rfl, fun q => ?_⟩
  rw [State.port_riseCount]
  split
  · exact ⟨rfl, rfl, rfl, rfl⟩
  · exact .refl _

theorem State.samePool_programmed (s : State) (i : Index) (p : Port) (n : Nat) (data : List Byte) (ok : Bool) :
    s.landed.SamePool (s.programmed i p n data ok) := by
  have landed (array : Memory) : s.landed.SamePool { s.landed with array := array } := ⟨rfl, fun _ => .refl _⟩
  unfold State.programmed
  dsimp only
  split
  · exact landed _
  · exact (landed _).trans (State.samePool_riseCount _ i p)

theorem State.samePool_makeLive (s : State) (g : Segment) (new : Table) : s.SamePool (s.makeLive g new) := by
  refine ⟨rfl, fun q => ?_⟩
  rw [State.port_makeLive]
  split
  · exact .refl _
  · exact ⟨rfl, rfl, rfl, rfl⟩

theorem State.samePool_tick (s : State) : s.SamePool s.tick := by
  refine ⟨rfl, fun p => ?_⟩
  rw [State.port_tick]
  exact ⟨rfl, rfl, rfl, rfl⟩

/-! ### Accesses of the window and the pool -/

/-- All that an access of a window can do to the pool: nothing, an ABORT, a SETUP that is taken, or a word through
DATA. -/
inductive State.PoolEffect (s : State) (p : Port) : State → Prop
  | beside {t : State} (same : s.SamePool t) : PoolEffect s p t
  | abort : PoolEffect s p (s.abort p)
  | setup
    (range : setupInRange ((s.port p).param 0) ((s.port p).param 1) ((s.port p).param 2) ((s.port p).param 3)
      ((s.port p).param 4) = true)
    (admits : s.poolAdmits p ((s.port p).param 3) = true) : PoolEffect s p (s.setup p)
  /-- A word into the FILLING buffer of a WRITE (R96). -/
  | fills {i : Index} {start count : Nat} (w : Word) (command : (s.port p).activeCommand = some (.write i start count))
    (filling : (s.port p).hasFilling = true) : PoolEffect s p (s.updPort p fun u => u.fill w).settle
  /-- A word into a buffer that a WRITE takes (R96). -/
  | begins {i : Index} {start count : Nat} (w : Word) (command : (s.port p).activeCommand = some (.write i start count))
    (filling : (s.port p).hasFilling = false) (may : s.mayTake p = true) :
    PoolEffect s p (s.updPort p fun u => u.beginSector w).settle
  /-- A word out of the oldest buffer of a READ (R97). -/
  | drains {i : Index} {start count : Nat} {r : ReadProgress} {b : Buffer} {rest : List Buffer} (w : Word)
    (command : (s.port p).activeCommand = some (.read i start count)) (transfers : (s.port p).transfers = b :: rest)
    (full : b.state = .ready ∨ b.state = .draining) :
    PoolEffect s p (((s.output p w).updPort p fun u => u.drain b rest r).completeRead p).settle

theorem State.samePool_edit (s : State) (p : Port) (f : Table → Nat ⊕ Table) : s.SamePool (s.edit p f) := by
  unfold State.edit
  repeat' split
  all_goals exact s.samePool_answer_with _ _ _ p _

theorem State.samePool_refuseData (s : State) (p : Port) : s.SamePool (s.refuseData p) :=
  s.samePool_updPort ⟨rfl, rfl, rfl, rfl⟩

theorem State.samePool_output (s : State) (p : Port) (w : Word) : s.SamePool (s.output p w) :=
  s.samePool_updPort ⟨rfl, rfl, rfl, rfl⟩

theorem State.samePool_emptyRead (s : State) (p : Port) : s.SamePool (s.emptyRead p) :=
  (s.samePool_refuseData p).trans (State.samePool_output _ p 0)

theorem State.poolEffect_dataWrite (s : State) (p : Port) (w : Word) : s.PoolEffect p (s.dataWrite p w) := by
  have refused : s.PoolEffect p (s.refuseData p) := .beside (s.samePool_refuseData p)
  unfold State.dataWrite
  split
  · exact refused
  rename_i e a active
  split
  · rename_i i start count cmd
    have command := PortUnit.activeCommand_of_active active
    rw [cmd] at command
    split
    · split
      · rename_i filling
        exact .fills w command filling
      rename_i filling
      split
      · rename_i may
        exact .begins w command (by simpa using filling) may
      · exact refused
    · exact refused
  all_goals exact refused

theorem State.poolEffect_dataRead (s : State) (p : Port) : s.PoolEffect p (s.dataRead p) := by
  have empty : s.PoolEffect p (s.emptyRead p) := .beside (s.samePool_emptyRead p)
  unfold State.dataRead
  split
  · exact empty
  rename_i e a active
  split
  · rename_i i start count r cmd progress
    have command := PortUnit.activeCommand_of_active active
    rw [cmd] at command
    split
    · exact empty
    split
    · exact empty
    rename_i b rest transfers
    split
    · rename_i full
      exact .drains _ command transfers full
    · exact empty
  · exact empty

theorem State.poolEffect_setup (s : State) (p : Port) : s.PoolEffect p (s.setup p) := by
  by_cases range : setupInRange ((s.port p).param 0) ((s.port p).param 1) ((s.port p).param 2) ((s.port p).param 3)
      ((s.port p).param 4) = true
  · by_cases admits : s.poolAdmits p ((s.port p).param 3) = true
    · exact .setup range admits
    · rw [show s.setup p = s.answer p (answerCode codePoolBusy) by simp [State.setup, range, admits]]
      exact .beside (s.samePool_answer p _)
  · rw [show s.setup p = s.answer p (answerCode codeBadParam) by simp [State.setup, range]]
    exact .beside (s.samePool_answer p _)

theorem State.WindowEffect.pool {s t : State} {p : Port} (e : s.WindowEffect p t) : s.PoolEffect p t := by
  cases e with
  | nothing => exact .beside (.refl s)
  | issueQueued tag _ => exact .beside (s.samePool_updPort (PortUnit.samePool_issueQueued _ tag _))
  | claim =>
    refine .beside ?_
    unfold State.claim
    dsimp only
    repeat' split
    all_goals exact s.samePool_answer_with _ _ _ p _
  | discard =>
    refine .beside ?_
    unfold State.discard
    repeat' split
    all_goals exact s.samePool_answer_with _ _ _ p _
  | define | delete | resize | modify => exact .beside (s.samePool_edit p _)
  | close =>
    refine .beside ?_
    unfold State.close
    repeat' split
    all_goals exact s.samePool_answer_with _ _ _ p _
  | hold =>
    refine .beside ?_
    unfold State.takeHold
    repeat' split
    all_goals exact s.samePool_answer_with _ _ _ p _
  | abort => exact .abort
  | pop => exact .beside (s.samePool_updPort (PortUnit.samePool_pop _))
  | watch =>
    refine .beside ?_
    unfold State.watch
    repeat' split
    all_goals exact s.samePool_updPort ⟨rfl, rfl, rfl, rfl⟩
  | info =>
    refine .beside ?_
    unfold State.info
    dsimp only
    repeat' split
    all_goals exact s.samePool_answer p _
  | setup => exact s.poolEffect_setup p
  | dataWrite w => exact s.poolEffect_dataWrite p w
  | dataRead => exact s.poolEffect_dataRead p
  | paramWrite loc w =>
    refine .beside ?_
    unfold State.paramWrite
    split
    · exact s.samePool_updPort ⟨rfl, rfl, rfl, rfl⟩
    · exact .refl s
  | badCommand => exact .beside (s.samePool_answer p _)
  | output w => exact .beside (s.samePool_output p w)
  | stageKey | notices | eventsWrite _ | enableWrite _ =>
    refine .beside (s.samePool_updPort ?_)
    exact ⟨rfl, rfl, rfl, rfl⟩

end Sys2Proof.Machine

namespace Sys2Proof.Machine

/-! ### Buffers are freed (R85, R94) -/

/-- From `s` to `t` no port takes a buffer, and the SETUP figures stay. -/
def State.Frees (s t : State) : Prop := ∀ p, (s.port p).Frees (t.port p)

theorem State.Frees.refl (s : State) : s.Frees s := fun _ => .refl _

theorem State.Frees.trans {s t u : State} (h : s.Frees t) (k : t.Frees u) : s.Frees u := fun p => (h p).trans (k p)

theorem State.SamePool.frees {s t : State} (h : s.SamePool t) : s.Frees t := fun p => (h.port p).frees

theorem State.Frees.settle {s t : State} (h : s.Frees t) : s.Frees t.settle := h.trans t.samePool_settle.frees

theorem State.frees_updPort (s : State) {p : Port} {f : PortUnit → PortUnit} (h : (s.port p).Frees (f (s.port p))) :
    s.Frees (s.updPort p f) := by
  intro q
  by_cases here : q = p
  · subst here
    rwa [State.port_updPort_same]
  · rw [State.port_updPort_of_ne _ _ here]
    exact .refl _

theorem PortUnit.length_keptBuffers_le (u : PortUnit) (removed : Bool) :
    (u.keptBuffers removed).length ≤ u.holding := by
  cases removed with
  | true => exact List.length_filter_le _ _
  | false => exact Nat.zero_le _

theorem PortUnit.frees_dropInArray (u : PortUnit) : u.Frees u.dropInArray :=
  ⟨rfl, le_rfl, List.length_filter_le _ _⟩

/-- New progress after buffers have been freed. -/
theorem PortUnit.Frees.setProgress {u v : PortUnit} (h : u.Frees v) (pr : Progress) : u.Frees (v.setProgress pr) :=
  h.trans (v.samePool_setProgress pr).frees

theorem State.frees_finish (s : State) (p : Port) (st : Status) : s.Frees (s.finish p st) := by
  unfold State.finish
  split
  · exact .refl s
  · exact s.frees_updPort ⟨rfl, le_rfl, PortUnit.length_keptBuffers_le _ _⟩

theorem State.frees_completeRead (s : State) (p : Port) : s.Frees (s.completeRead p) := by
  unfold State.completeRead
  split
  · exact .refl s
  split
  · split
    · exact s.frees_finish p _
    · exact .refl s
  · exact .refl s

theorem State.frees_abort (s : State) (p : Port) : s.Frees (s.abort p) := by
  unfold State.abort
  split
  · exact (s.samePool_answer p _).frees
  split
  · exact (s.samePool_answer p _).frees
  split
  · exact State.Frees.trans (s.frees_updPort ⟨rfl, le_rfl, le_rfl⟩) (State.samePool_answer _ p _).frees
  · refine State.Frees.settle (.trans ?_ (State.samePool_answer _ p _).frees)
    unfold State.abortActive
    split
    · refine s.frees_updPort ?_
      unfold PortUnit.setActive
      split <;> exact ⟨rfl, le_rfl, le_rfl⟩
    · exact (s.frees_finish p _).trans (State.samePool_leaveTableState _ _).frees

/-! #### Starts and the ends of the array's operations -/

theorem State.frees_commandStart (s : State) (p : Port) : s.Frees (s.commandStart p) := by
  unfold State.commandStart
  split
  · split
    · exact .refl s
    split
    · refine State.Frees.settle (State.Frees.trans (s.frees_updPort ?_) (State.samePool_openIfMatched _ p _ _).frees)
      unfold PortUnit.spend
      split
      · exact ⟨rfl, Nat.sub_le _ _, le_rfl⟩
      · exact ⟨rfl, le_rfl, le_rfl⟩
    · refine State.Frees.settle (State.Frees.trans (s.frees_updPort ?_) (State.samePool_enterTableState _ p _).frees)
      exact ⟨rfl, le_rfl, le_rfl⟩
  · exact .refl s

theorem State.frees_tableFault (s : State) (p : Port) (cmd : QueuedCommand) (removed : Bool) :
    s.Frees (s.tableFault p cmd removed) := by
  unfold State.tableFault
  split
  · exact .refl s
  · exact (s.samePool_leaveTableState cmd).frees.trans (State.frees_finish _ p _)

/-- The operation in flight has ended and the array has changed: the pool is not concerned. -/
theorem State.frees_landed (s : State) (array : Memory) : s.Frees { s.landed with array := array } := .refl s

theorem PortUnit.frees_readReport (u : PortUnit) (r : ReadProgress) (count : Nat) (report : ReadReport) :
    u.Frees (u.readReport r count report) := by
  have delivered (data : List Byte) (blank : Bool) : u.Frees (u.readDelivered r count data blank) := by
    refine PortUnit.Frees.setProgress ?_ _
    exact ⟨rfl, le_rfl, (List.length_map _).le⟩
  cases report with
  | unreadable => exact u.frees_dropInArray.setProgress _
  | _ => exact delivered _ _

theorem State.frees_readEnd (s : State) (g : Segment) (count : Nat) (report : ReadReport) :
    s.Frees (s.readEnd g count report) := by
  have landed : s.Frees s.landed := .refl s
  unfold State.readEnd
  split
  · exact landed.trans (State.frees_updPort _ (PortUnit.frees_dropInArray _))
  split
  · exact landed
  split
  · rename_i r _
    have reported : s.Frees (s.landed.updPort g.port fun u => u.readReport r count report) :=
      landed.trans (State.frees_updPort _ (PortUnit.frees_readReport _ r count report))
    dsimp only
    split
    · exact reported.trans (State.frees_finish _ _ _)
    · exact reported.trans (State.frees_completeRead _ _)
  · exact landed

theorem State.frees_checkEnd (s : State) (g : Segment) (count : Nat) (report : ReadReport) :
    s.Frees (s.checkEnd g count report) := by
  have landed : s.Frees s.landed := .refl s
  unfold State.checkEnd
  split
  · exact landed
  split
  · exact landed
  split
  · have counted := fun pr => landed.trans (State.samePool_setProgress s.landed g.port pr).frees
    dsimp only
    split
    · exact (counted _).trans (State.frees_finish _ _ _)
    split
    · exact (counted _).trans (State.frees_finish _ _ _)
    · exact counted _
  · exact landed

theorem State.frees_programmed (s : State) (i : Index) (p : Port) (n : Nat) (data : List Byte) (ok : Bool) :
    s.Frees (s.programmed i p n data ok) := (s.samePool_programmed i p n data ok).frees

theorem State.frees_blanked (s : State) (i : Index) (p : Port) (b : Nat) : s.Frees (s.blanked i p b) :=
  (s.frees_landed (blankBlock s.array b)).trans (State.samePool_riseCount _ i p).frees

theorem State.frees_writeReport (s : State) (p : Port) (count : Nat) (w : WriteProgress) (abortPending : Bool)
    (report : ProgramReport) : s.Frees (s.writeReport p count w abortPending report) := by
  have stopped : s.Frees (s.updPort p fun u => u.stoppedAt w) := (s.samePool_setProgress p _).frees
  have freed : s.Frees (s.updPort p fun u => u.programmedOne w) := by
    refine s.frees_updPort (PortUnit.Frees.setProgress ?_ _)
    exact ⟨rfl, le_rfl, (List.tail_sublist _).length_le⟩
  cases report with
  | written =>
    unfold State.writeReport
    dsimp only
    split
    · exact freed.trans (State.frees_finish _ _ _)
    split
    · exact freed.trans (State.frees_finish _ _ _)
    · exact freed
  | _ => exact stopped.trans (State.frees_finish _ _ _)

theorem State.frees_writeEnd (s : State) (g : Segment) (i : Index) (count n : Nat) (data : List Byte) (ok : Bool) :
    s.Frees (s.writeEnd g i count n data ok) := by
  have programmed := s.frees_programmed i g.port n data ok
  unfold State.writeEnd
  dsimp only
  split
  · exact programmed.trans (State.frees_updPort _ (PortUnit.frees_dropInArray _))
  split
  · exact programmed
  split
  · exact programmed.trans (State.frees_writeReport _ _ _ _ _ _)
  · exact programmed

theorem State.frees_blankEnd (s : State) (g : Segment) (i : Index) (count b : Nat) :
    s.Frees (s.blankEnd g i count b) := by
  have blanked := s.frees_blanked i g.port b
  unfold State.blankEnd
  dsimp only
  split
  · exact blanked
  split
  · exact blanked
  split
  · have counted := fun pr => blanked.trans (State.samePool_setProgress (s.blanked i g.port b) g.port pr).frees
    split
    · exact (counted _).trans (State.frees_finish _ _ _)
    split
    · exact (counted _).trans (State.frees_finish _ _ _)
    · exact counted _
  · exact blanked

theorem State.frees_wipeBlockEnd (s : State) (g : Segment) (i : Index) (b : Nat) : s.Frees (s.wipeBlockEnd g i b) := by
  have blanked := s.frees_blanked i g.port b
  unfold State.wipeBlockEnd
  dsimp only
  split
  · exact blanked
  split
  · exact blanked
  split
  · have counted := fun pr => blanked.trans (State.samePool_setProgress (s.blanked i g.port b) g.port pr).frees
    split
    · exact ((counted _).trans (State.frees_finish _ _ _)).trans (State.samePool_leaveTableState _ _).frees
    · exact counted _
  · exact blanked

theorem State.frees_headerEnd (s : State) (g : Segment) (new : Table) (ok : Bool) : s.Frees (s.headerEnd g new ok) := by
  unfold State.headerEnd
  dsimp only
  split
  · exact .refl s
  · exact ((s.frees_landed _).trans (State.frees_tableFault _ _ _ _)).settle

theorem State.frees_endChanged (s : State) (g : Segment) (new : Table) : s.Frees (s.endChanged g new) := by
  have ends (s : State) (q : Port) : s.Frees (s.endIfChanged g new q) := by
    unfold State.endIfChanged
    split
    · exact s.frees_finish q _
    · exact .refl s
  exact ((ends _ .a).trans (ends _ .b)).trans (ends _ .c)

theorem State.frees_switchover (s : State) (g : Segment) (new : Table) : s.Frees (s.switchover g new) := by
  have live := (s.frees_endChanged g new).trans (State.samePool_makeLive _ g new).frees
  unfold State.switchover
  dsimp only
  split
  · exact live
  · exact live.trans (State.frees_finish _ _ _)

theorem State.frees_recordsEnd (s : State) (g : Segment) (new : Table) (ok : Bool) :
    s.Frees (s.recordsEnd g new ok) := by
  unfold State.recordsEnd
  dsimp only
  split
  · exact ((s.frees_landed _).trans (State.frees_switchover _ g new)).settle
  · exact ((s.frees_landed _).trans (State.frees_tableFault _ _ _ _)).settle

/-- READY is raised at every port when the load has ended (R37). -/
theorem State.frees_loaded (s : State) (t0 t1 : Option Table) : s.Frees (s.loaded t0 t1) := by
  intro p
  show (s.port p).Frees ((PerPort.mapPorts _ _).get p)
  rw [PerPort.get_mapPorts]
  exact ⟨rfl, le_rfl, le_rfl⟩

theorem State.frees_loadEnd (s : State) (got : List ReadReport) : s.Frees (s.loadEnd got) := by
  unfold State.loadEnd
  split
  · exact .refl s
  · exact (s.frees_loaded _ _).settle

/-! #### Expiries and time -/

theorem State.frees_leaseExpiry (s : State) : s.Frees s.leaseExpiry := by
  unfold State.leaseExpiry State.loseClaim
  repeat' split
  · exact (s.samePool_updPort_with _ _ _ ⟨rfl, rfl, rfl, rfl⟩).frees
  all_goals exact .refl s

theorem State.frees_stallExpiry (s : State) (p : Port) : s.Frees (s.stallExpiry p) := by
  unfold State.stallExpiry
  split
  · exact (s.frees_finish p _).settle
  · exact .refl s

theorem State.frees_standbyExpiry (s : State) : s.Frees s.standbyExpiry := by
  unfold State.standbyExpiry
  split
  · exact State.Frees.settle (.refl s)
  · exact .refl s

theorem State.frees_wakeEnd (s : State) : s.Frees s.wakeEnd := by
  unfold State.wakeEnd
  split
  · exact State.Frees.settle (.refl s)
  · exact .refl s

/-! ### What a step does to the pool and to the SETUP figures -/

/-- From `s` to `t` one port takes a buffer and the other ports take none. -/
structure State.Takes (s : State) (p : Port) (t : State) : Prop where
  setup : (t.port p).setup = (s.port p).setup
  budget : (t.port p).budget = (s.port p).budget
  holding : (t.port p).holding = (s.port p).holding + 1
  others : ∀ q, q ≠ p → (s.port q).Frees (t.port q)

/-- All that a step can do to the pool and to the SETUP figures. -/
inductive State.PoolMove (s : State) : State → Prop
  | frees {t : State} (frees : s.Frees t) : PoolMove s t
  | takes {p : Port} {t : State} (may : s.mayTake p = true) (takes : s.Takes p t) : PoolMove s t
  | setup {p : Port}
    (range : setupInRange ((s.port p).param 0) ((s.port p).param 1) ((s.port p).param 2) ((s.port p).param 3)
      ((s.port p).param 4) = true)
    (admits : s.poolAdmits p ((s.port p).param 3) = true) : PoolMove s (s.setup p)
  | resetPort (p : Port) : PoolMove s (s.resetPort p)
  | cleared {t : State} (cleared : ∀ p, ∃ level, t.port p = { PortUnit.reset with prst := level }) : PoolMove s t

theorem State.Takes.settle {s t : State} {p : Port} (h : s.Takes p t) : s.Takes p t.settle := by
  have same := t.samePool_settle.port
  exact ⟨(same p).setup.trans h.setup, (same p).budget.trans h.budget,
    (congrArg List.length (same p).transfers).trans h.holding, fun q other => (h.others q other).trans (same q).frees⟩

/-- One buffer joins the tail of the transfer list. -/
theorem State.takes_updPort (s : State) {p : Port} {f : PortUnit → PortUnit}
    (setup : (f (s.port p)).setup = (s.port p).setup)
    (budget : (f (s.port p)).budget = (s.port p).budget) {b : Buffer}
    (transfers : (f (s.port p)).transfers = (s.port p).transfers ++ [b]) : s.Takes p (s.updPort p f) := by
  refine ⟨?_, ?_, ?_, fun q other => ?_⟩
  · rwa [State.port_updPort_same]
  · rwa [State.port_updPort_same]
  · rw [State.port_updPort_same, PortUnit.holding, transfers, List.length_append]
    rfl
  · rw [State.port_updPort_of_ne _ _ other]
    exact .refl _

theorem PortUnit.frees_fill (u : PortUnit) (w : Word) : u.Frees (u.fill w) := by
  unfold PortUnit.fill
  split
  · exact .refl u
  · rename_i b last
    have length (c : Buffer) : (u.transfers.dropLast ++ [c]).length ≤ u.transfers.length := by
      have some : u.transfers ≠ [] := by
        rintro empty
        simp [empty] at last
      have := List.length_pos_iff.mpr some
      simp
      omega
    dsimp only
    split <;> exact ⟨rfl, le_rfl, length _⟩

theorem PortUnit.frees_drain {u : PortUnit} {b : Buffer} {rest : List Buffer} (transfers : u.transfers = b :: rest)
    (r : ReadProgress) : u.Frees (u.drain b rest r) := by
  have length : u.holding = rest.length + 1 := congrArg List.length transfers
  unfold PortUnit.drain
  split
  · refine PortUnit.Frees.setProgress ?_ _
    refine ⟨rfl, le_rfl, ?_⟩
    show rest.length ≤ u.holding
    omega
  · refine ⟨rfl, le_rfl, ?_⟩
    show rest.length + 1 ≤ u.holding
    omega

theorem State.PoolEffect.poolMove {s t : State} {p : Port} (e : s.PoolEffect p t) : s.PoolMove t := by
  cases e with
  | beside same => exact .frees same.frees
  | abort => exact .frees (s.frees_abort p)
  | setup range admits => exact .setup range admits
  | fills w _ _ => exact .frees (s.frees_updPort (PortUnit.frees_fill _ w)).settle
  | begins w _ _ may => exact .takes may (State.Takes.settle (s.takes_updPort rfl rfl rfl))
  | @drains i start count r b rest w _ transfers _ =>
    refine .frees (State.Frees.settle (State.Frees.trans ?_ (State.frees_completeRead _ p)))
    have output := s.samePool_output p w
    exact output.frees.trans
      (State.frees_updPort _ (PortUnit.frees_drain ((output.port p).transfers.trans transfers) r))

/-- The grant of a READ's segment takes a buffer, any other grant takes none (R93). -/
theorem State.poolMove_grant {s : State} {p : Port} {e : Entry} {a : Active} {w : Work}
    (work : s.nextWork p = some (e, a, w)) : s.PoolMove (s.grant p e a w) := by
  obtain ⟨-, -, due⟩ := State.nextWork_iff.mp work
  unfold State.grant
  split
  · refine .frees (State.Frees.settle (.trans (?_ : s.Frees _) (State.frees_tableFault _ _ _ _)))
    exact State.Frees.refl s
  set s1 : State :=
    { s with
      lastGranted := p, inFlight := some (.segment { port := p, cmd := e.cmd, removed := false, work := w }) }
  have beside : s.Frees s1 := .refl s
  cases progress : a.progress with
  | read r =>
    have may : s.mayTake p = true := by
      obtain ⟨i, x, -, ⟨n, m, r, -, -, -, may, -⟩ | ⟨n, m, c, -, other, -⟩ | ⟨n, m, k, b, rest, -, other, -⟩ |
        ⟨n, m, k, -, other, -⟩ | ⟨which, key, k, -, other, -⟩⟩ | ⟨other, -⟩ := due
      · exact may
      all_goals simp [progress] at other
    have same := PortUnit.samePool_setProgress
      ((s.port p).takeBuffer { state := .inArray, data := [], sector := some r.nextSector, blankMark := false })
      (.read { r with nextSector := r.nextSector + 1 })
    have takes : s1.Takes p (s1.updPort p fun u => u.mount (.read r)) :=
      s1.takes_updPort same.setup same.budget same.transfers
    exact .takes may (State.Takes.settle ⟨takes.setup, takes.budget, takes.holding, takes.others⟩)
  | write k =>
    refine .frees (State.Frees.settle (beside.trans (s1.frees_updPort ?_)))
    unfold PortUnit.mount
    dsimp only
    split
    · exact .refl _
    · rename_i b rest transfers
      exact ⟨rfl, le_rfl, (congrArg List.length transfers).ge⟩
  | check c | blank k | wipe k | job due =>
    exact .frees (State.Frees.settle (beside.trans (s1.samePool_setProgress p _).frees))

theorem State.port_wiped (s : State) (begun : Bool) (p : Port) :
    ∃ level, (s.wiped begun).port p = { PortUnit.reset with prst := level } :=
  ⟨_, PerPort.get_mapPorts _ _ p⟩

theorem State.Event.poolMove {s t : State} (e : s.Event t) : s.PoolMove t := by
  cases e with
  | nothing => exact .frees (.refl s)
  | commandStart p => exact .frees (s.frees_commandStart p)
  | grant _ _ work _ => exact State.poolMove_grant work
  | readEnd _ _ _ => exact .frees (s.frees_readEnd _ _ _).settle
  | checkEnd _ _ _ => exact .frees (s.frees_checkEnd _ _ _).settle
  | writeEnd ok _ _ _ => exact .frees (s.frees_writeEnd _ _ _ _ _ ok).settle
  | blankEnd _ _ _ => exact .frees (s.frees_blankEnd _ _ _ _).settle
  | wipeBlockEnd _ _ _ => exact .frees (s.frees_wipeBlockEnd _ _ _).settle
  | tableBlankEnd _ _ => exact .frees (State.Frees.refl s)
  | headerEnd ok _ _ => exact .frees (s.frees_headerEnd _ _ ok)
  | recordsEnd ok _ _ => exact .frees (s.frees_recordsEnd _ _ ok)
  | loadEnd _ => exact .frees (s.frees_loadEnd _)
  | standbyExpiry => exact .frees s.frees_standbyExpiry
  | wakeEnd => exact .frees s.frees_wakeEnd
  | leaseExpiry => exact .frees s.frees_leaseExpiry
  | stallExpiry p => exact .frees (s.frees_stallExpiry p)
  | tick => exact .frees s.samePool_tick.frees
  | resetPort p _ _ => exact .resetPort p
  | withPrst p level => exact .frees (s.frees_updPort ⟨rfl, le_rfl, le_rfl⟩)
  | partReset begun _ => exact .cleared (s.port_wiped begun)
  | partResetUnpowered _ => exact .frees (State.Frees.refl s)
  | releaseReset _ => exact .frees (State.Frees.refl s)
  | powerOn begun => exact .cleared (s.port_wiped begun)
  | powerLoss begun _ => exact .cleared (s.port_wiped begun)

end Sys2Proof.Machine

namespace Sys2Proof.Machine

/-! ### The pool law (R86) -/

/-- The buffers that a port holds or is guaranteed. -/
def PortUnit.demand (u : PortUnit) : Nat := max u.guarantee u.holding

/-- The pool law says that the pool covers what the three ports hold or are guaranteed. -/
theorem State.poolLaw_iff (s : State) :
    s.poolLaw = true ↔ (s.port .a).demand + (s.port .b).demand + (s.port .c).demand ≤ 24 := by
  simp only [State.poolLaw, Bool.and_eq_true, decide_eq_true_eq]
  simp only [State.freeCount, State.heldCount, PortUnit.unmet, PortUnit.demand, Config.poolSize]
  omega

theorem PortUnit.Frees.demand {u v : PortUnit} (h : u.Frees v) : v.demand ≤ u.demand := by
  have guarantee : v.guarantee = u.guarantee := congrArg SetupFigures.guarantee h.setup
  have := h.holding
  simp only [PortUnit.demand]
  omega

theorem State.Frees.poolLaw {s t : State} (h : s.Frees t) (law : s.poolLaw = true) : t.poolLaw = true := by
  rw [State.poolLaw_iff] at law ⊢
  have a := (h .a).demand
  have b := (h .b).demand
  have c := (h .c).demand
  omega

/-- What the two other ports hold or are guaranteed. -/
def State.othersDemand (s : State) : Port → Nat
  | .a => (s.port .b).demand + (s.port .c).demand
  | .b => (s.port .a).demand + (s.port .c).demand
  | .c => (s.port .a).demand + (s.port .b).demand

theorem State.poolLaw_iff_at (s : State) (p : Port) :
    s.poolLaw = true ↔ (s.port p).demand + s.othersDemand p ≤ 24 := by
  rw [State.poolLaw_iff]
  cases p
  all_goals
    simp only [State.othersDemand]
    omega

theorem State.othersDemand_le {s t : State} {p : Port} (h : ∀ q, q ≠ p → (t.port q).demand ≤ (s.port q).demand) :
    t.othersDemand p ≤ s.othersDemand p := by
  cases p
  · exact Nat.add_le_add (h .b (by decide)) (h .c (by decide))
  · exact Nat.add_le_add (h .a (by decide)) (h .c (by decide))
  · exact Nat.add_le_add (h .a (by decide)) (h .b (by decide))

/-- What is held, with the unmet guarantees of the two other ports. -/
theorem State.heldCount_add_othersUnmet (s : State) (p : Port) :
    s.heldCount + s.othersUnmet p = (s.port p).holding + s.othersDemand p := by
  cases p
  all_goals
    simp only [State.heldCount, State.othersUnmet, State.othersDemand, PortUnit.unmet, PortUnit.demand]
    omega

/-- The allocation rule leaves the two other ports what they are guaranteed (R88). -/
theorem State.Takes.poolLaw {s t : State} {p : Port} (h : s.Takes p t) (may : s.mayTake p = true)
    (law : s.poolLaw = true) : t.poolLaw = true := by
  obtain ⟨free, -, rule⟩ := (s.mayTake_iff p).mp may
  have guarantee : (t.port p).guarantee = (s.port p).guarantee := congrArg SetupFigures.guarantee h.setup
  have holding := h.holding
  have others := State.othersDemand_le fun q other => (h.others q other).demand
  have sum := s.heldCount_add_othersUnmet p
  rw [State.poolLaw_iff_at _ p] at law ⊢
  simp only [State.freeCount, Config.poolSize, PortUnit.demand] at free rule law ⊢
  omega

theorem State.poolAdmits_iff (s : State) (p : Port) (g : Nat) :
    s.poolAdmits p g = true ↔ g - (s.port p).holding + s.othersUnmet p ≤ s.freeCount := by
  simp only [State.poolAdmits, decide_eq_true_eq]

/-- A new guarantee that passes the pool test (R102, R105). -/
theorem State.poolLaw_of_admits {s t : State} {p : Port} (held : s.heldCount ≤ 24)
    (admits : s.poolAdmits p (t.port p).guarantee = true) (holding : (t.port p).holding = (s.port p).holding)
    (others : ∀ q, q ≠ p → (t.port q).demand = (s.port q).demand) : t.poolLaw = true := by
  have le := State.othersDemand_le fun q other => (others q other).le
  have sum := s.heldCount_add_othersUnmet p
  rw [State.poolLaw_iff_at _ p]
  rw [State.poolAdmits_iff] at admits
  simp only [State.freeCount, Config.poolSize] at admits
  simp only [PortUnit.demand]
  omega

theorem State.heldCount_le {s : State} (law : s.poolLaw = true) : s.heldCount ≤ 24 := by
  simp only [State.poolLaw, Bool.and_eq_true, decide_eq_true_eq] at law
  exact law.1

/-- The free count covers the unmet guarantees of the two other ports. -/
theorem State.othersUnmet_le {s : State} (law : s.poolLaw = true) (p : Port) : s.othersUnmet p ≤ s.freeCount := by
  have sum := s.heldCount_add_othersUnmet p
  rw [State.poolLaw_iff_at _ p] at law
  simp only [PortUnit.demand] at law
  simp only [State.freeCount, Config.poolSize]
  omega

/-! #### SETUP (R102) -/

/-- What a SETUP that is taken leaves at its port, in the figures and the pool. -/
theorem State.setup_taken {s : State} {p : Port}
    (range : setupInRange ((s.port p).param 0) ((s.port p).param 1) ((s.port p).param 2) ((s.port p).param 3)
      ((s.port p).param 4) = true)
    (admits : s.poolAdmits p ((s.port p).param 3) = true) :
    (s.updPort p fun u => u.takeSetup (u.param 0) (u.param 1) (u.param 2) (u.param 3) (u.param 4)).SamePool
      (s.setup p) := by
  have taken : s.setup p = ((s.updPort p fun u => u.takeSetup (u.param 0) (u.param 1) (u.param 2) (u.param 3)
      (u.param 4)).intervalChanged s.interval).settle := by
    simp [State.setup, range, admits]
  have changed (t : State) (old : Nat) : t.SamePool (t.intervalChanged old) := by
    unfold State.intervalChanged
    split <;> exact ⟨rfl, fun _ => .refl _⟩
  rw [taken]
  exact (changed _ _).trans (State.samePool_settle _)

theorem State.poolLaw_setup {s : State} {p : Port}
    (range : setupInRange ((s.port p).param 0) ((s.port p).param 1) ((s.port p).param 2) ((s.port p).param 3)
      ((s.port p).param 4) = true)
    (admits : s.poolAdmits p ((s.port p).param 3) = true) (law : s.poolLaw = true) : (s.setup p).poolLaw = true := by
  refine (State.setup_taken range admits).frees.poolLaw ?_
  refine State.poolLaw_of_admits (p := p) (State.heldCount_le law) ?_ ?_ fun q other => ?_
  · rwa [State.port_updPort_same]
  · rw [State.port_updPort_same]
    rfl
  · rw [State.port_updPort_of_ne _ _ other]

/-! #### The port reset (R104, R105) -/

theorem State.port_clearPort_same (s : State) (p : Port) :
    (s.clearPort p).port p = PortUnit.afterReset ((s.port p).keptBuffers (s.segmentOf p)) :=
  PerPort.get_set_same _ _ _

theorem State.port_clearPort_of_ne (s : State) {p q : Port} (other : q ≠ p) :
    (s.clearPort p).port q = s.port q :=
  PerPort.get_set_of_ne _ _ other

theorem State.othersUnmet_clearPort (s : State) (p : Port) : (s.clearPort p).othersUnmet p = s.othersUnmet p := by
  cases p <;> simp [State.othersUnmet, State.port_clearPort_of_ne]

/-- A port reset frees buffers of its port alone. -/
theorem State.heldCount_clearPort_le (s : State) (p : Port) : (s.clearPort p).heldCount ≤ s.heldCount := by
  have holding (q : Port) : ((s.clearPort p).port q).holding ≤ (s.port q).holding := by
    by_cases here : q = p
    · subst here
      rw [State.port_clearPort_same]
      exact PortUnit.length_keptBuffers_le _ _
    · rw [State.port_clearPort_of_ne s here]
  exact Nat.add_le_add (Nat.add_le_add (holding .a) (holding .b)) (holding .c)

theorem State.othersUnmet_clearPort_le {s : State} (law : s.poolLaw = true) (p : Port) :
    (s.clearPort p).othersUnmet p ≤ (s.clearPort p).freeCount := by
  have unmet := State.othersUnmet_le law p
  have held := s.heldCount_clearPort_le p
  rw [State.othersUnmet_clearPort]
  simp only [State.freeCount] at unmet ⊢
  omega

/-- The guarantee after a port reset is one that the pool law allows, and at most 2 (R105). -/
theorem State.resetGuarantee_spec {s : State} {p : Port} (covered : s.othersUnmet p ≤ s.freeCount) :
    s.poolAdmits p (s.resetGuarantee p) = true ∧ s.resetGuarantee p ≤ 2 := by
  unfold State.resetGuarantee
  split
  · rename_i admits
    exact ⟨admits, le_rfl⟩
  · rename_i refused
    rw [State.poolAdmits_iff] at refused ⊢
    omega

/-- What a port reset leaves in the figures and the pool. -/
theorem State.samePool_resetPort (s : State) (p : Port) :
    ((s.clearPort p).updPort p fun u => { u with guarantee := (s.clearPort p).resetGuarantee p }).SamePool
      (s.resetPort p) := State.samePool_settle _

theorem State.poolLaw_resetPort {s : State} (p : Port) (law : s.poolLaw = true) : (s.resetPort p).poolLaw = true := by
  refine (s.samePool_resetPort p).frees.poolLaw ?_
  refine State.poolLaw_of_admits (p := p) ((s.heldCount_clearPort_le p).trans (State.heldCount_le law)) ?_ ?_
    fun q other => ?_
  · rw [State.port_updPort_same]
    exact (State.resetGuarantee_spec (State.othersUnmet_clearPort_le law p)).1
  · rw [State.port_updPort_same]
    rfl
  · rw [State.port_updPort_of_ne _ _ other]

theorem State.PoolMove.poolLaw {s t : State} (m : s.PoolMove t) (law : s.poolLaw = true) : t.poolLaw = true := by
  cases m with
  | frees frees => exact frees.poolLaw law
  | takes may takes => exact takes.poolLaw may law
  | setup range admits => exact State.poolLaw_setup range admits law
  | resetPort p => exact State.poolLaw_resetPort p law
  | cleared cleared =>
    have demand (p : Port) : (t.port p).demand = 2 := by
      obtain ⟨level, unit⟩ := cleared p
      rw [unit]
      rfl
    rw [State.poolLaw_iff, demand, demand, demand]
    decide

/-- Settles O9: a step frees buffers, takes one by the allocation rule, takes a SETUP that passes the pool test, or resets
ports; each leaves the pool enough for what the ports hold or are guaranteed. -/
theorem poolLawIsKept : Obligations.PoolLawIsKept := by
  intro s t law h
  exact step_induction (I := fun s => s.poolLaw = true) (J := fun s => s.poolLaw = true) (fun _ _ h => h)
    (fun _ _ _ h => h) (fun _ _ _ h => h) (fun law e => e.pool.poolMove.poolLaw law) (fun law e => e.poolMove.poolLaw law)
    h law

end Sys2Proof.Machine

namespace Sys2Proof.Machine

/-! ### The ranges of the SETUP figures and of the budgets (R13, R79, R87, R101, R144) -/

/-- The ranges of the SETUP figures. -/
structure SetupFigures.InRange (f : SetupFigures) : Prop where
  guarantee : f.guarantee ≤ 4
  least : max f.guarantee 1 ≤ f.limit
  limit : f.limit ≤ 12
  transferUnit : f.transferUnit ∈ [32, 64, 128, 256, 512]
  stallSetting : f.stallSetting ≤ 255
  vote : f.vote ≤ 255

theorem PortUnit.figuresLaw_iff (u : PortUnit) : u.figuresLaw = true ↔ u.setup.InRange ∧ u.budget ≤ 4 := by
  simp only [PortUnit.figuresLaw, Bool.and_eq_true, decide_eq_true_eq]
  exact ⟨fun ⟨⟨⟨⟨⟨⟨g, m⟩, l⟩, u⟩, s⟩, v⟩, b⟩ => ⟨⟨g, m, l, u, s, v⟩, b⟩,
    fun ⟨⟨g, m, l, u, s, v⟩, b⟩ => ⟨⟨⟨⟨⟨⟨g, m⟩, l⟩, u⟩, s⟩, v⟩, b⟩⟩

theorem PortUnit.figuresLaw_of_setup {u v : PortUnit} (setup : v.setup = u.setup) (budget : v.budget ≤ u.budget)
    (law : u.figuresLaw = true) : v.figuresLaw = true := by
  rw [PortUnit.figuresLaw_iff] at law ⊢
  exact ⟨setup ▸ law.1, budget.trans law.2⟩

theorem PortUnit.Frees.figuresLaw {u v : PortUnit} (h : u.Frees v) (law : u.figuresLaw = true) : v.figuresLaw = true :=
  PortUnit.figuresLaw_of_setup h.setup h.budget law

/-- The values of a SETUP that is taken (R180). -/
theorem PortUnit.figuresLaw_takeSetup {u : PortUnit} (law : u.figuresLaw = true) {unit stall vote g l : Nat}
    (range : setupInRange unit stall vote g l = true) : (u.takeSetup unit stall vote g l).figuresLaw = true := by
  rw [PortUnit.figuresLaw_iff] at law ⊢
  simp only [setupInRange, Bool.and_eq_true, Bool.or_eq_true, decide_eq_true_eq] at range
  obtain ⟨⟨⟨⟨⟨unit, stall⟩, vote⟩, guarantee⟩, least⟩, limit⟩ := range
  refine ⟨⟨guarantee, least, limit, ?_, stall, vote⟩, law.2⟩
  simpa [PortUnit.setup, PortUnit.takeSetup, or_assoc] using unit

theorem PortUnit.figuresLaw_reset (level : Bool) : { PortUnit.reset with prst := level }.figuresLaw = true := by
  cases level <;> decide

/-- A port reset leaves its port the figures of a part reset, with a guarantee of at most 2. -/
theorem PortUnit.figuresLaw_afterReset (kept : List Buffer) {g : Nat} (small : g ≤ 2) :
    { PortUnit.afterReset kept with guarantee := g }.figuresLaw = true := by
  obtain ⟨reset, budget⟩ := (PortUnit.figuresLaw_iff _).mp (PortUnit.figuresLaw_reset true)
  rw [PortUnit.figuresLaw_iff]
  refine ⟨⟨?_, ?_, reset.limit, reset.transferUnit, reset.stallSetting, reset.vote⟩, budget⟩
  · show g ≤ 4
    omega
  · show max g 1 ≤ 6
    omega

theorem State.PoolMove.figuresLaw {s t : State} (m : s.PoolMove t) (pool : s.poolLaw = true)
    (law : ∀ p, (s.port p).figuresLaw = true) (q : Port) : (t.port q).figuresLaw = true := by
  cases m with
  | frees frees => exact (frees q).figuresLaw (law q)
  | @takes p t may takes =>
    by_cases here : q = p
    · exact here ▸ PortUnit.figuresLaw_of_setup takes.setup takes.budget.le (law p)
    · exact (takes.others q here).figuresLaw (law q)
  | @setup p range admits =>
    refine ((State.setup_taken range admits).port q).frees.figuresLaw ?_
    by_cases here : q = p
    · subst here
      rw [State.port_updPort_same]
      exact PortUnit.figuresLaw_takeSetup (law q) range
    · rw [State.port_updPort_of_ne _ _ here]
      exact law q
  | resetPort p =>
    refine ((s.samePool_resetPort p).port q).frees.figuresLaw ?_
    by_cases here : q = p
    · subst here
      rw [State.port_updPort_same, State.port_clearPort_same]
      exact PortUnit.figuresLaw_afterReset _ (State.resetGuarantee_spec (State.othersUnmet_clearPort_le pool q)).2
    · rw [State.port_updPort_of_ne _ _ here, State.port_clearPort_of_ne s here]
      exact law q
  | cleared cleared =>
    obtain ⟨level, unit⟩ := cleared q
    rw [unit]
    exact PortUnit.figuresLaw_reset level

/-- Settles O10: only SETUP and the resets set the figures, within their ranges, and a budget only falls or is full; the
guarantee after a port reset is at most 2 by the pool law. -/
theorem setupFiguresStayInRange : Obligations.SetupFiguresStayInRange := by
  intro s t pool law h
  have keeps {s t : State} (before : s.poolLaw = true ∧ s.atPorts PortUnit.figuresLaw = true) (m : s.PoolMove t) :
      t.atPorts PortUnit.figuresLaw = true :=
    (t.atPorts_iff _).mpr (m.figuresLaw before.1 ((s.atPorts_iff _).mp before.2))
  exact step_induction (I := fun s => s.poolLaw = true ∧ s.atPorts PortUnit.figuresLaw = true)
    (J := fun s => s.atPorts PortUnit.figuresLaw = true) (fun _ _ h => h) (fun _ _ _ h => h) (fun _ _ _ h => h)
    (fun before e => keeps before e.pool.poolMove) (fun before e => keeps before e.poolMove) h ⟨pool, law⟩

end Sys2Proof.Machine

namespace Sys2Proof.Machine

/-! ### The forms of the transfer lists (R91) -/

/-- Buffers in the state `x`, then at most one in the state `y`. -/
inductive Run (x y : BufferState) : List BufferState → Prop
  | nil : Run x y []
  | last : Run x y [y]
  | more {l : List BufferState} (h : Run x y l) : Run x y (x :: l)

theorem Run.mem {x y z : BufferState} {l : List BufferState} (h : Run x y l) (mem : z ∈ l) : z = x ∨ z = y := by
  induction h with
  | nil => cases mem
  | last => exact .inr (List.mem_singleton.mp mem)
  | more h ih =>
    obtain rfl | later := List.mem_cons.mp mem
    · exact .inl rfl
    · exact ih later

/-- The last buffer, of which there is none yet, joins the tail. -/
theorem Run.append {x y : BufferState} {l : List BufferState} (h : Run x y l) (new : y ∉ l) : Run x y (l ++ [y]) := by
  induction h with
  | nil => exact .last
  | last => simp at new
  | more h ih => exact .more (ih fun mem => new (List.mem_cons_of_mem _ mem))

/-- The last buffer comes into the state of those before it. -/
theorem Run.exchange_last {x y : BufferState} {l : List BufferState} (h : Run x y (l ++ [y])) : Run x y (l ++ [x]) := by
  induction l with
  | nil => exact .more .nil
  | cons z rest ih =>
    generalize eq : z :: rest ++ [y] = whole at h
    cases h with
    | nil => cases eq
    | last => simp at eq
    | more h =>
      obtain ⟨rfl, rfl⟩ := List.cons.inj eq
      exact .more (ih h)

theorem Run.filter_eq {x y : BufferState} {l : List BufferState} (h : Run x y l) (apart : x ≠ y) :
    l.filter (fun st => decide (st = y)) = [] ∨ l.filter (fun st => decide (st = y)) = [y] := by
  induction h with
  | nil => exact .inl rfl
  | last => exact .inr (by simp)
  | more h ih => simpa [apart] using ih

theorem Run.filter_ne {x y : BufferState} {l : List BufferState} (h : Run x y l) (z : BufferState) :
    Run x y (l.filter fun st => decide (st ≠ z)) := by
  induction h with
  | nil => exact .nil
  | last =>
    by_cases there : y = z
    · simpa [there] using Run.nil
    · simpa [there] using Run.last
  | more h ih =>
    by_cases there : x = z
    · simpa [there] using ih
    · simpa [there] using Run.more ih

/-- The last buffer, wherever it stands, comes into the state of the others. -/
theorem Run.map_exchange {x y : BufferState} {l : List BufferState} (h : Run x y l) :
    Run x y (l.map fun st => if st = y then x else st) := by
  induction h with
  | nil => exact .nil
  | last => simpa using Run.more Run.nil
  | more h ih => simpa using Run.more ih

/-- The states of a READ's list: DRAINING, then READY, then IN_ARRAY. -/
inductive ReadList : List BufferState → Prop
  | ready {l : List BufferState} (h : Run .ready .inArray l) : ReadList l
  | draining {l : List BufferState} (h : Run .ready .inArray l) : ReadList (.draining :: l)

/-- The states of a WRITE's list: IN_ARRAY, then FULL, then FILLING. -/
inductive WriteList : List BufferState → Prop
  | full {l : List BufferState} (h : Run .full .filling l) : WriteList l
  | inArray {l : List BufferState} (h : Run .full .filling l) : WriteList (.inArray :: l)

theorem readyForm_iff (l : List BufferState) : readForm.readyForm l = true ↔ Run .ready .inArray l := by
  constructor
  · intro h
    induction l with
    | nil => exact .nil
    | cons x rest ih =>
      cases x with
      | ready => exact .more (ih h)
      | inArray =>
        cases rest with
        | nil => exact .last
        | cons y more => cases h
      | _ => cases h
  · intro h
    induction h with
    | nil | last => rfl
    | more h ih => exact ih

theorem fullForm_iff (l : List BufferState) : writeForm.fullForm l = true ↔ Run .full .filling l := by
  constructor
  · intro h
    induction l with
    | nil => exact .nil
    | cons x rest ih =>
      cases x with
      | full => exact .more (ih h)
      | filling =>
        cases rest with
        | nil => exact .last
        | cons y more => cases h
      | _ => cases h
  · intro h
    induction h with
    | nil | last => rfl
    | more h ih => exact ih

theorem readForm_iff (l : List BufferState) : readForm l = true ↔ ReadList l := by
  constructor
  · intro h
    unfold readForm at h
    split at h
    · exact .draining ((readyForm_iff _).mp h)
    · exact .ready ((readyForm_iff _).mp h)
  · intro h
    cases h with
    | draining h => exact (readyForm_iff _).mpr h
    | ready h =>
      unfold readForm
      split
      · obtain eq | eq := h.mem List.mem_cons_self <;> cases eq
      · exact (readyForm_iff _).mpr h

theorem writeForm_iff (l : List BufferState) : writeForm l = true ↔ WriteList l := by
  constructor
  · intro h
    unfold writeForm at h
    split at h
    · exact .inArray ((fullForm_iff _).mp h)
    · exact .full ((fullForm_iff _).mp h)
  · intro h
    cases h with
    | inArray h => exact (fullForm_iff _).mpr h
    | full h =>
      unfold writeForm
      split
      · obtain eq | eq := h.mem List.mem_cons_self <;> cases eq
      · exact (fullForm_iff _).mpr h

/-- READ and WRITE: the commands whose segments use a buffer (R85). -/
def QueuedCommand.usesBuffer : QueuedCommand → Bool
  | .read _ _ _ | .write _ _ _ => true
  | .check _ _ _ | .blank _ _ _ | .wipe _ _ _ | .commit | .openKey _ _ _ | .setKey _ _ _ | .clearKey _ _
  | .setRecovery _ _ => false

/-- The form of a transfer list by the ACTIVE command (R91, R104). -/
inductive ListForm : Option QueuedCommand → List BufferState → Prop
  | read {i : Index} {start count : Nat} {l : List BufferState} (h : ReadList l) :
    ListForm (some (.read i start count)) l
  | write {i : Index} {start count : Nat} {l : List BufferState} (h : WriteList l) :
    ListForm (some (.write i start count)) l
  | idle {c : Option QueuedCommand} {l : List BufferState} (other : ∀ q, c = some q → q.usesBuffer = false)
    (h : l = [] ∨ l = [.inArray]) : ListForm c l

/-- A list of at most one IN_ARRAY buffer has the form of every command. -/
theorem ListForm.of_short {l : List BufferState} (h : l = [] ∨ l = [.inArray]) (c : Option QueuedCommand) :
    ListForm c l := by
  cases c with
  | none => exact .idle (fun q eq => by cases eq) h
  | some q =>
    cases q with
    | read i start count =>
      obtain rfl | rfl := h
      · exact .read (.ready .nil)
      · exact .read (.ready .last)
    | write i start count =>
      obtain rfl | rfl := h
      · exact .write (.full .nil)
      · exact .write (.inArray .nil)
    | _ => exact .idle (fun q eq => by cases eq; rfl) h

theorem ListForm.readList {i : Index} {start count : Nat} {l : List BufferState}
    (h : ListForm (some (.read i start count)) l) : ReadList l := by
  cases h with
  | read h => exact h
  | idle other h => cases other _ rfl

theorem ListForm.writeList {i : Index} {start count : Nat} {l : List BufferState}
    (h : ListForm (some (.write i start count)) l) : WriteList l := by
  cases h with
  | write h => exact h
  | idle other h => cases other _ rfl

/-- A run of two other states holds no IN_ARRAY buffer. -/
theorem Run.no_inArray {l : List BufferState} (h : Run .full .filling l) : BufferState.inArray ∉ l := by
  intro mem
  obtain eq | eq := h.mem mem <;> cases eq

/-- Every list has at most one IN_ARRAY buffer. -/
theorem ListForm.kept {c : Option QueuedCommand} {l : List BufferState} (h : ListForm c l) :
    l.filter (fun st => decide (st = .inArray)) = [] ∨ l.filter (fun st => decide (st = .inArray)) = [.inArray] := by
  have writes {l : List BufferState} (h : Run .full .filling l) : l.filter (fun st => decide (st = .inArray)) = [] :=
    List.filter_eq_nil_iff.mpr fun st mem eq => h.no_inArray (of_decide_eq_true eq ▸ mem)
  cases h with
  | read h =>
    cases h with
    | ready h => exact h.filter_eq (by decide)
    | draining h => exact h.filter_eq (by decide)
  | write h =>
    cases h with
    | full h => exact .inl (writes h)
    | inArray h => exact .inr (by simp [writes h])
  | idle _ h =>
    obtain rfl | rfl := h
    · exact .inl rfl
    · exact .inr rfl

/-- Without its IN_ARRAY buffer a list keeps its form. -/
theorem ListForm.dropped {c : Option QueuedCommand} {l : List BufferState} (h : ListForm c l) :
    ListForm c (l.filter fun st => decide (st ≠ .inArray)) := by
  cases h with
  | read h =>
    cases h with
    | ready h => exact .read (.ready (h.filter_ne _))
    | draining h => exact .read (.draining (h.filter_ne _))
  | write h =>
    cases h with
    | full h => exact .write (.full (h.filter_ne _))
    | inArray h => exact .write (.full (h.filter_ne _))
  | idle other h =>
    obtain rfl | rfl := h
    · exact .idle other (.inl rfl)
    · exact .idle other (.inl rfl)

/-! ### The law at one port -/

/-- The states of a port's buffers, oldest first. -/
def PortUnit.states (u : PortUnit) : List BufferState := u.transfers.map Buffer.state

/-- The transfer list of a port has the form of its ACTIVE command, and an IN_ARRAY buffer exactly when `uses`. -/
structure PortUnit.ListLaw (u : PortUnit) (uses : Bool) : Prop where
  form : ListForm u.activeCommand u.states
  inArray : BufferState.inArray ∈ u.states ↔ uses = true

theorem State.bufferInFlight_iff (s : State) (p : Port) :
    s.bufferInFlight p = true ↔
      ∃ g, s.inFlight = some (.segment g) ∧ g.port = p ∧ g.cmd.usesBuffer = true := by
  unfold State.bufferInFlight
  split
  · rename_i g flight
    simp only [flight, Option.some.injEq, InFlight.segment.injEq, exists_eq_left', Bool.and_eq_true, decide_eq_true_eq]
    refine and_congr_right fun _ => ?_
    cases g.cmd <;> simp [QueuedCommand.usesBuffer]
  · rename_i flight
    simp [flight]
  · rename_i flight
    simp [flight]

/-- The law of R91, port by port. -/
theorem State.listLaw_iff (s : State) (p : Port) :
    s.listLaw p = true ↔ (s.port p).ListLaw (s.bufferInFlight p) := by
  have form : (match (s.port p).activeCommand with
      | some (.read _ _ _) => readForm (s.port p).states
      | some (.write _ _ _) => writeForm (s.port p).states
      | _ => decide ((s.port p).states = []) || decide ((s.port p).states = [.inArray])) = true ↔
      ListForm (s.port p).activeCommand (s.port p).states := by
    split
    · rename_i command
      rw [command, readForm_iff]
      exact ⟨.read, fun h => h.readList⟩
    · rename_i command
      rw [command, writeForm_iff]
      exact ⟨.write, fun h => h.writeList⟩
    · rename_i notRead notWrite
      rw [Bool.or_eq_true, decide_eq_true_eq, decide_eq_true_eq]
      constructor
      · exact fun h => .of_short h _
      · intro h
        generalize command : (s.port p).activeCommand = c at h
        cases h with
        | idle _ h => exact h
        | read => exact absurd command (notRead _ _ _)
        | write => exact absurd command (notWrite _ _ _)
  unfold State.listLaw
  simp only [Bool.and_eq_true, decide_eq_true_eq]
  exact ⟨fun ⟨mem, h⟩ => ⟨form.mp h, mem⟩, fun h => ⟨h.inArray, form.mpr h.form⟩⟩

end Sys2Proof.Machine

namespace Sys2Proof.Machine

section

/-! ### What one port's list can do -/

variable {u v : PortUnit} {uses : Bool}

theorem PortUnit.SamePool.states (h : u.SamePool v) : v.states = u.states := congrArg (List.map Buffer.state) h.transfers

theorem PortUnit.SamePool.listLaw (h : u.SamePool v) (law : u.ListLaw uses) : v.ListLaw uses := by
  refine ⟨?_, ?_⟩
  · rw [h.activeCommand, h.states]
    exact law.form
  · rw [h.states]
    exact law.inArray

/-- A port without an ACTIVE READ or WRITE holds at most an IN_ARRAY buffer, which is in its place on every list. -/
theorem PortUnit.ListLaw.start (law : u.ListLaw uses) (idle : u.activeCommand = none)
    (transfers : v.transfers = u.transfers) : v.ListLaw uses := by
  have states : v.states = u.states := congrArg (List.map Buffer.state) transfers
  have short := law.form
  rw [idle] at short
  refine ⟨?_, states ▸ law.inArray⟩
  rw [states]
  cases short with
  | idle _ h => exact .of_short h _

theorem PortUnit.states_filter (p : BufferState → Bool)
    (transfers : v.transfers = u.transfers.filter fun b => p b.state) :
    v.states = u.states.filter p := by
  rw [PortUnit.states, transfers, PortUnit.states, List.filter_map]
  rfl

/-- The end of an ACTIVE entry: its buffers are freed, but for one that a removed entry's segment uses (R67, R104). -/
theorem PortUnit.listLaw_ended {removed : Bool} (kept : v.transfers = u.keptBuffers removed)
    (law : removed = true → u.ListLaw uses) (free : removed = false → uses = false) : v.ListLaw uses := by
  cases removed with
  | false =>
    have none : v.states = [] := congrArg (List.map Buffer.state) kept
    refine ⟨.of_short (.inl none) _, ?_⟩
    simp [none, free rfl]
  | true =>
    have states : v.states = u.states.filter fun st => decide (st = .inArray) :=
      PortUnit.states_filter (fun st => decide (st = .inArray)) kept
    refine ⟨.of_short (states ▸ (law rfl).form.kept) _, ?_⟩
    rw [states, ← (law rfl).inArray]
    simp

/-- The IN_ARRAY buffer is freed at its segment's end (R104, R111). -/
theorem PortUnit.ListLaw.dropInArray (law : u.ListLaw uses) : u.dropInArray.ListLaw false := by
  have states : u.dropInArray.states = u.states.filter fun st => decide (st ≠ .inArray) :=
    PortUnit.states_filter (v := u.dropInArray) (fun st => decide (st ≠ .inArray)) rfl
  refine ⟨?_, ?_⟩
  · rw [states]
    exact law.form.dropped
  · simp [states]

/-! #### WRITE -/

variable {i : Index} {start count : Nat}

/-- A newest buffer that is FILLING. -/
theorem PortUnit.hasFilling_iff (u : PortUnit) :
    u.hasFilling = true ↔ ∃ older b, u.transfers = older ++ [b] ∧ b.state = .filling := by
  unfold PortUnit.hasFilling
  split
  · rename_i empty
    simp [List.getLast?_eq_none_iff.mp empty]
  · rename_i b last
    obtain ⟨older, transfers⟩ := List.getLast?_eq_some_iff.mp last
    simp [transfers]

theorem PortUnit.hasFilling_eq_false_iff (u : PortUnit) :
    u.hasFilling = false ↔ ∀ b, u.transfers.getLast? = some b → b.state ≠ .filling := by
  unfold PortUnit.hasFilling
  split
  · rename_i empty
    simp [empty]
  · rename_i b last
    simp [last]

/-- What a word into the FILLING buffer does to the port unit (R92, R95, R96). -/
theorem PortUnit.fill_of_filling {older : List Buffer} {b : Buffer} (transfers : u.transfers = older ++ [b]) (w : Word) :
    u.fill w =
      if u.offset + 2 = 512 then
        { u with
          transfers := older ++
            [{ b with state := .full, data := b.data.take u.offset ++ [lowByte w, highByte w] }],
          offset := 0, moved := u.moved + 2, stallTimer := restartTimer u.stallTimer }
      else
        { u with
          transfers := older ++ [{ b with data := b.data.take u.offset ++ [lowByte w, highByte w] }],
          offset := u.offset + 2, moved := u.moved + 2 } := by
  simp [PortUnit.fill, transfers, Config.sectorBytes]

/-- The FILLING buffer, the last of a WRITE's list, may become FULL. -/
theorem WriteList.exchange_last {l : List BufferState} (h : WriteList (l ++ [.filling])) : WriteList (l ++ [.full]) := by
  generalize eq : l ++ [.filling] = whole at h
  cases h with
  | full h =>
    subst eq
    exact .full h.exchange_last
  | inArray h =>
    cases l with
    | nil => cases eq
    | cons x rest =>
      obtain ⟨rfl, rfl⟩ := List.cons.inj eq
      exact .inArray h.exchange_last

/-- A FILLING buffer joins a WRITE's list that has none. -/
theorem WriteList.append {l : List BufferState} (h : WriteList l) (new : BufferState.filling ∉ l) :
    WriteList (l ++ [.filling]) := by
  cases h with
  | full h => exact .full (h.append new)
  | inArray h => exact .inArray (h.append fun mem => new (List.mem_cons_of_mem _ mem))

/-- On a run of FULL and FILLING the FILLING buffer can only be the newest. -/
theorem Run.getLast?_of_mem {x y : BufferState} {l : List BufferState} (h : Run x y l) (apart : x ≠ y) (mem : y ∈ l) :
    l.getLast? = some y := by
  induction h with
  | nil => cases mem
  | last => rfl
  | @more l h ih =>
    have later : y ∈ l := (List.mem_cons.mp mem).resolve_left (Ne.symm apart)
    rw [List.getLast?_cons, ih later]
    rfl

theorem WriteList.getLast?_of_filling {l : List BufferState} (h : WriteList l) (mem : BufferState.filling ∈ l) :
    l.getLast? = some .filling := by
  cases h with
  | full h => exact h.getLast?_of_mem (by decide) mem
  | inArray h =>
    have later := (List.mem_cons.mp mem).resolve_left (by decide)
    rw [List.getLast?_cons, h.getLast?_of_mem (by decide) later]
    rfl

theorem PortUnit.ListLaw.fill (law : u.ListLaw uses) (command : u.activeCommand = some (.write i start count))
    (filling : u.hasFilling = true) (w : Word) : (u.fill w).ListLaw uses := by
  obtain ⟨older, b, transfers, state⟩ := u.hasFilling_iff.mp filling
  obtain ⟨form, inArray⟩ := law
  rw [command, show u.states = older.map Buffer.state ++ [.filling] by simp [PortUnit.states, transfers, state]] at form
  rw [show u.states = older.map Buffer.state ++ [.filling] by simp [PortUnit.states, transfers, state]] at inArray
  have same : (u.fill w).activeCommand = some (.write i start count) :=
    (PortUnit.activeCommand_congr (u.queue_fill w)).trans command
  have filled : (u.fill w).states = older.map Buffer.state ++ [.full] ∨
      (u.fill w).states = older.map Buffer.state ++ [.filling] := by
    rw [PortUnit.fill_of_filling transfers]
    split
    · exact .inl (by simp [PortUnit.states])
    · exact .inr (by simp [PortUnit.states, state])
  obtain states | states := filled
  · refine ⟨?_, ?_⟩
    · rw [same, states]
      exact .write form.writeList.exchange_last
    · rw [states, ← inArray]
      simp
  · refine ⟨?_, ?_⟩
    · rwa [same, states]
    · rwa [states]

theorem PortUnit.ListLaw.beginSector (law : u.ListLaw uses)
    (command : u.activeCommand = some (.write i start count)) (filling : u.hasFilling = false) (w : Word) :
    (u.beginSector w).ListLaw uses := by
  obtain ⟨form, inArray⟩ := law
  rw [command] at form
  have none : BufferState.filling ∉ u.states := by
    intro mem
    have last := form.writeList.getLast?_of_filling mem
    rw [PortUnit.states, List.getLast?_map] at last
    obtain ⟨b, newest, state⟩ := Option.map_eq_some_iff.mp last
    exact u.hasFilling_eq_false_iff.mp filling b newest state
  have states : (u.beginSector w).states = u.states ++ [.filling] := by simp [PortUnit.states, PortUnit.beginSector]
  refine ⟨?_, ?_⟩
  · rw [states, show (u.beginSector w).activeCommand = _ from command]
    exact .write (form.writeList.append none)
  · rw [states, ← inArray]
    simp

/-- The oldest FULL buffer of a WRITE comes into the array (R92, R124). -/
theorem PortUnit.ListLaw.mount_write (law : u.ListLaw false)
    (command : u.activeCommand = some (.write i start count)) {b : Buffer} {rest : List Buffer}
    (transfers : u.transfers = b :: rest) (full : b.state = .full) (k : WriteProgress) :
    (u.mount (.write k)).ListLaw true := by
  have form := law.form
  rw [command, show u.states = .full :: rest.map Buffer.state by simp [PortUnit.states, transfers, full]] at form
  have mounted : u.mount (.write k) = { u with transfers := { b with state := .inArray } :: rest } := by
    simp [PortUnit.mount, transfers]
  rw [mounted]
  refine ⟨?_, by simp [PortUnit.states]⟩
  show ListForm u.activeCommand (.inArray :: rest.map Buffer.state)
  rw [command]
  cases form.writeList with
  | full h =>
    cases h with
    | more h => exact .write (.inArray h)

/-- The oldest buffer of a WRITE, whose program has ended, is freed (R92). -/
theorem PortUnit.ListLaw.programmedOne (law : u.ListLaw true)
    (command : u.activeCommand = some (.write i start count)) (k : WriteProgress) :
    (u.programmedOne k).ListLaw false := by
  obtain ⟨form, inArray⟩ := law
  rw [command] at form
  refine (PortUnit.samePool_setProgress { u with transfers := u.transfers.tail } _).listLaw ?_
  have states : PortUnit.states { u with transfers := u.transfers.tail } = u.states.tail := List.map_tail
  have run : Run .full .filling u.states.tail := by
    have there := inArray.mpr rfl
    generalize u.states = l at form there
    cases form.writeList with
    | full h => exact absurd there h.no_inArray
    | inArray h => exact h
  refine ⟨?_, ?_⟩
  · rw [states, show PortUnit.activeCommand { u with transfers := u.transfers.tail } = _ from command]
    exact .write (.full run)
  · rw [states]
    simp [run.no_inArray]

/-! #### READ -/

/-- Behind an oldest buffer that is READY or DRAINING. -/
theorem ReadList.tail {x : BufferState} {l : List BufferState} (h : ReadList (x :: l))
    (full : x = .ready ∨ x = .draining) : Run .ready .inArray l := by
  cases h with
  | draining h => exact h
  | ready h =>
    cases h with
    | more h => exact h
    | last => obtain eq | eq := full <;> cases eq

/-- A word out of the oldest buffer leaves it DRAINING, or frees it (R97, R112). -/
theorem PortUnit.ListLaw.drain (law : u.ListLaw uses) (command : u.activeCommand = some (.read i start count))
    {b : Buffer} {rest : List Buffer} (transfers : u.transfers = b :: rest)
    (full : b.state = .ready ∨ b.state = .draining) (r : ReadProgress) : (u.drain b rest r).ListLaw uses := by
  obtain ⟨form, inArray⟩ := law
  have states : u.states = b.state :: rest.map Buffer.state := by simp [PortUnit.states, transfers]
  rw [command, states] at form
  have run := form.readList.tail full
  have other : BufferState.inArray ≠ b.state := by
    obtain state | state := full
    all_goals
      rw [state]
      decide
  rw [states, List.mem_cons, or_iff_right other] at inArray
  unfold PortUnit.drain
  split
  · refine (PortUnit.samePool_setProgress _ _).listLaw ⟨?_, inArray⟩
    show ListForm u.activeCommand (rest.map Buffer.state)
    rw [command]
    exact .read (.ready run)
  · refine ⟨?_, ?_⟩
    · show ListForm u.activeCommand (.draining :: rest.map Buffer.state)
      rw [command]
      exact .read (.draining run)
    · show BufferState.inArray ∈ .draining :: rest.map Buffer.state ↔ _
      rw [List.mem_cons, or_iff_right (by decide), inArray]

theorem ReadList.append {l : List BufferState} (h : ReadList l) (new : BufferState.inArray ∉ l) :
    ReadList (l ++ [.inArray]) := by
  cases h with
  | ready h => exact .ready (h.append new)
  | draining h => exact .draining (h.append fun mem => new (List.mem_cons_of_mem _ mem))

/-- The buffer that a READ takes joins the tail (R93, R109). -/
theorem PortUnit.ListLaw.mount_read (law : u.ListLaw false) (command : u.activeCommand = some (.read i start count))
    (r : ReadProgress) : (u.mount (.read r)).ListLaw true := by
  obtain ⟨form, inArray⟩ := law
  rw [command] at form
  refine (PortUnit.samePool_setProgress (u.takeBuffer _) _).listLaw ⟨?_, ?_⟩
  · rw [show (u.takeBuffer _).activeCommand = _ from command]
    have list := form.readList.append (by simpa using inArray)
    simpa [PortUnit.states, PortUnit.takeBuffer] using ListForm.read list
  · simp [PortUnit.states, PortUnit.takeBuffer]

theorem ReadList.delivered {l : List BufferState} (h : ReadList l) :
    ReadList (l.map fun st => if st = .inArray then .ready else st) := by
  cases h with
  | ready h => exact .ready h.map_exchange
  | draining h => exact .draining h.map_exchange

/-- The sector of a READ's segment is delivered, or its buffer is freed (R110, R111). -/
theorem PortUnit.ListLaw.readReport (law : u.ListLaw uses) (command : u.activeCommand = some (.read i start count))
    (r : ReadProgress) (n : Nat) (report : ReadReport) : (u.readReport r n report).ListLaw false := by
  have form := law.form
  rw [command] at form
  have delivered (data : List Byte) (blank : Bool) : (u.readDelivered r n data blank).ListLaw false := by
    refine (PortUnit.samePool_setProgress { u with transfers := u.transfers.map (Buffer.deliver data blank) } _).listLaw ?_
    have state (b : Buffer) : (b.deliver data blank).state = if b.state = .inArray then .ready else b.state := by
      unfold Buffer.deliver
      split <;> rfl
    have states : PortUnit.states { u with transfers := u.transfers.map (Buffer.deliver data blank) } =
        u.states.map fun st => if st = .inArray then .ready else st := by
      simp [PortUnit.states, state]
    refine ⟨?_, ?_⟩
    · show ListForm u.activeCommand _
      rw [command, states]
      exact .read form.readList.delivered
    · rw [states]
      simp only [List.mem_map, Bool.false_eq_true, iff_false, not_exists, not_and]
      intro st _
      split
      · decide
      · assumption
  cases report with
  | unreadable => exact (u.dropInArray.samePool_setProgress _).listLaw law.dropInArray
  | _ => exact delivered _ _

end

end Sys2Proof.Machine

namespace Sys2Proof.Machine

/-! ### The law at the three ports -/

/-- The law of R91 holds at every port. -/
def State.ListLaws (s : State) : Prop := ∀ p, (s.port p).ListLaw (s.bufferInFlight p)

theorem State.bufferInFlight_congr {s t : State} (h : t.inFlight = s.inFlight) (p : Port) :
    t.bufferInFlight p = s.bufferInFlight p := by
  unfold State.bufferInFlight
  rw [h]

theorem State.bufferInFlight_of_no_segment {s : State} (h : ∀ g, s.inFlight ≠ some (.segment g)) (p : Port) :
    s.bufferInFlight p = false := by
  refine Bool.eq_false_iff.mpr fun there => ?_
  obtain ⟨g, flight, -⟩ := (s.bufferInFlight_iff p).mp there
  exact h g flight

theorem State.bufferInFlight_of_idle {s : State} (h : s.inFlight = none) (p : Port) : s.bufferInFlight p = false :=
  State.bufferInFlight_of_no_segment (by simp [h]) p

/-- The segment in flight uses a buffer of its own port only. -/
theorem State.bufferInFlight_eq {s : State} {g : Segment} (flight : s.inFlight = some (.segment g)) (p : Port) :
    s.bufferInFlight p = (decide (g.port = p) && g.cmd.usesBuffer) := by
  rw [Bool.eq_iff_iff, State.bufferInFlight_iff]
  simp [flight]

/-- Without a segment of its ACTIVE entry or of a removed one a port has no buffer in the array. -/
theorem State.bufferInFlight_of_not_segmentOf {s : State} {p : Port} (own : s.ownSegment p = false)
    (removed : s.removedSegment p = false) : s.bufferInFlight p = false := by
  refine Bool.eq_false_iff.mpr fun there => ?_
  obtain ⟨g, flight, port, -⟩ := (s.bufferInFlight_iff p).mp there
  cases gone : g.removed with
  | true => exact Bool.eq_false_iff.mp removed ((s.removedSegment_iff p).mpr ⟨g, flight, port, gone⟩)
  | false => exact Bool.eq_false_iff.mp own ((s.ownSegment_iff p).mpr ⟨g, flight, port, gone⟩)

theorem State.ListLaws.of_samePool {s t : State} (law : s.ListLaws) (h : s.SamePool t) : t.ListLaws := by
  intro p
  rw [State.bufferInFlight_congr h.inFlight]
  exact (h.port p).listLaw (law p)

theorem State.ListLaws.settle {s : State} (law : s.ListLaws) : s.settle.ListLaws := law.of_samePool s.samePool_settle

/-- One port unit changes. -/
theorem State.listLaws_updPort {s : State} {p : Port} {f : PortUnit → PortUnit}
    (others : ∀ q, q ≠ p → (s.port q).ListLaw (s.bufferInFlight q))
    (here : (f (s.port p)).ListLaw (s.bufferInFlight p)) : (s.updPort p f).ListLaws := by
  intro q
  rw [State.bufferInFlight_congr (s.inFlight_updPort p f)]
  by_cases same : q = p
  · subst same
    rwa [State.port_updPort_same]
  · rw [State.port_updPort_of_ne _ _ same]
    exact others q same

theorem State.ListLaws.updPort {s : State} (law : s.ListLaws) {p : Port} {f : PortUnit → PortUnit}
    (here : (f (s.port p)).ListLaw (s.bufferInFlight p)) : (s.updPort p f).ListLaws :=
  State.listLaws_updPort (fun q _ => law q) here

/-- The ACTIVE entry of a port, with no segment of it in flight, ends. -/
theorem State.ListLaws.finish {s : State} (law : s.ListLaws) {p : Port} (own : s.ownSegment p = false) (st : Status) :
    (s.finish p st).ListLaws := by
  cases active : (s.port p).activeEntry with
  | none => rwa [State.finish_of_idle st active]
  | some x =>
    rw [State.finish_of_active st active]
    refine law.updPort (f := fun _ => _) ?_
    exact PortUnit.listLaw_ended (u := s.port p) rfl (fun _ => law p) fun removed =>
      State.bufferInFlight_of_not_segmentOf own removed

/-- The ACTIVE entry of a port ends when the operation in flight has ended. -/
theorem State.listLaws_finish_of_landed {s : State} (idle : s.inFlight = none) {p : Port}
    (started : (s.port p).activeEntry ≠ none) (others : ∀ q, q ≠ p → (s.port q).ListLaw false) (st : Status) :
    (s.finish p st).ListLaws := by
  obtain ⟨x, active⟩ := Option.ne_none_iff_exists'.mp started
  have none := State.bufferInFlight_of_idle idle
  have kept : s.removedSegment p = false := by simp [State.removedSegment, idle]
  rw [State.finish_of_active st active]
  refine State.listLaws_updPort (f := fun _ => _) (fun q other => none q ▸ others q other) ?_
  exact PortUnit.listLaw_ended (u := s.port p) rfl (fun removed => by simp [kept] at removed) fun _ => none p

theorem State.ownSegment_of_landed {s : State} (h : s.inFlight = none) (p : Port) : s.ownSegment p = false := by
  simp [State.ownSegment, h]

theorem State.ListLaws.completeRead {s : State} (law : s.ListLaws) (p : Port) : (s.completeRead p).ListLaws := by
  unfold State.completeRead
  split
  · exact law
  split
  · split
    · rename_i done
      simp only [Bool.and_eq_true, Bool.not_eq_true'] at done
      obtain ⟨⟨-, own⟩, -⟩ := done
      exact law.finish own _
    · exact law
  · exact law

theorem State.ListLaws.tableFault {s : State} (law : s.ListLaws) (idle : s.inFlight = none) (p : Port)
    (cmd : QueuedCommand) (removed : Bool) : (s.tableFault p cmd removed).ListLaws := by
  unfold State.tableFault
  split
  · exact law
  · have left := s.samePool_leaveTableState cmd
    exact (law.of_samePool left).finish (State.ownSegment_of_landed (left.inFlight.trans idle) p) _

/-! #### Accesses of the window -/

theorem State.ListLaws.abort {s : State} (law : s.ListLaws) {p : Port} (behind : (s.port p).QueuedBehind) :
    (s.abort p).ListLaws := by
  unfold State.abort
  split
  · exact law.of_samePool (s.samePool_answer p _)
  split
  · exact law.of_samePool (s.samePool_answer p _)
  rename_i tag _ e found
  split
  · rename_i queued
    refine State.ListLaws.of_samePool ?_ (State.samePool_answer _ p _)
    refine law.of_samePool (s.samePool_updPort ⟨rfl, rfl, ?_, rfl⟩)
    exact congrArg (Option.map fun x => x.1.cmd) (activeOf_eraseP behind found queued)
  · rename_i a started
    have active := PortUnit.activeEntry_of_found behind (List.mem_of_find?_eq_some found) started
    refine State.ListLaws.settle (State.ListLaws.of_samePool ?_ (State.samePool_answer _ p _))
    unfold State.abortActive
    split
    · exact law.of_samePool (s.samePool_updPort (PortUnit.samePool_setActive _ active _))
    · rename_i own
      exact (law.finish (by simpa using own) _).of_samePool (State.samePool_leaveTableState _ _)

theorem State.PoolEffect.listLaws {s t : State} {p : Port} (e : s.PoolEffect p t) (law : s.ListLaws)
    (behind : (s.port p).QueuedBehind) : t.ListLaws := by
  cases e with
  | beside same => exact law.of_samePool same
  | abort => exact law.abort behind
  | setup range admits =>
    refine State.ListLaws.of_samePool (law.updPort ?_) (State.setup_taken range admits)
    exact ⟨(law p).form, (law p).inArray⟩
  | fills w command filling => exact (law.updPort ((law p).fill command filling w)).settle
  | begins w command filling _ => exact (law.updPort ((law p).beginSector command filling w)).settle
  | drains w command transfers full =>
    have output := s.samePool_output p w
    have law' := law.of_samePool output
    refine State.ListLaws.settle (State.ListLaws.completeRead (law'.updPort ?_) p)
    exact (law' p).drain ((output.port p).activeCommand.trans command) ((output.port p).transfers.trans transfers) full _

/-! #### Starts and grants -/

/-- A start finds no ACTIVE entry, and leaves the buffer that a removed entry's segment may still use (R64, R104). -/
theorem State.ListLaws.commandStart {s : State} (law : s.ListLaws) (p : Port) : (s.commandStart p).ListLaws := by
  unfold State.commandStart
  split
  · rename_i may
    obtain ⟨-, -, queued, -⟩ := (s.mayStart_iff p).mp may
    have idle := PortUnit.activeCommand_of_queued queued
    split
    · exact law
    split
    · rename_i st _
      refine State.ListLaws.settle (State.ListLaws.of_samePool (law.updPort ?_) (State.samePool_openIfMatched _ p _ st))
      refine (law p).start idle ?_
      unfold PortUnit.spend
      split <;> rfl
    · refine State.ListLaws.settle (State.ListLaws.of_samePool (law.updPort ?_) (State.samePool_enterTableState _ p _))
      exact (law p).start idle rfl
  · exact law

/-- What the grant does to the list of the port whose segment goes in flight (R92, R93). -/
theorem State.listLaw_mount {s : State} {p : Port} {e : Entry} {a : Active} {w : Work}
    (work : s.nextWork p = some (e, a, w)) (law : (s.port p).ListLaw false) :
    ((s.port p).mount a.progress).ListLaw e.cmd.usesBuffer := by
  obtain ⟨active, -, due⟩ := State.nextWork_iff.mp work
  have command := PortUnit.activeCommand_of_active active
  have beside (pr : Progress) (other : e.cmd.usesBuffer = false) :
      ((s.port p).setProgress pr).ListLaw e.cmd.usesBuffer :=
    other ▸ (PortUnit.samePool_setProgress _ pr).listLaw law
  obtain ⟨i, x, -, ⟨n, m, r, cmd, progress, -⟩ | ⟨n, m, c, cmd, progress, -⟩ |
    ⟨n, m, k, b, rest, cmd, progress, -, transfers, full, -⟩ | ⟨n, m, k, cmd, progress, -⟩ |
    ⟨which, key, k, cmd, progress, -⟩⟩ | ⟨progress, -, job⟩ := due
  · rw [cmd] at command ⊢
    rw [progress]
    exact law.mount_read command r
  · rw [progress]
    exact beside _ (by rw [cmd]; rfl)
  · rw [cmd] at command ⊢
    rw [progress]
    exact law.mount_write command transfers full k
  · rw [progress]
    exact beside _ (by rw [cmd]; rfl)
  · rw [progress]
    exact beside _ (by rw [cmd]; rfl)
  · rw [progress]
    refine beside _ ?_
    obtain cmd | ⟨i, key, mode, cmd⟩ | ⟨i, key, cmd⟩ | ⟨new, old, cmd⟩ := job
    all_goals
      rw [cmd]
      rfl

theorem State.ListLaws.grant {s : State} (law : s.ListLaws) (may : s.mayGrant = true) {p : Port} {e : Entry}
    {a : Active} {w : Work} (work : s.nextWork p = some (e, a, w)) : (s.grant p e a w).ListLaws := by
  obtain ⟨idle, -, -⟩ := s.mayGrant_iff.mp may
  have mounted (law : (s.port p).ListLaw false) := State.listLaw_mount work law
  have free (q : Port) : (s.port q).ListLaw false := State.bufferInFlight_of_idle idle q ▸ law q
  unfold State.grant
  split
  · have same : s.SamePool { s with lastGranted := p, standbyTimer := none } := ⟨rfl, fun _ => .refl _⟩
    exact ((law.of_samePool same).tableFault idle p e.cmd false).settle
  · refine State.ListLaws.settle (State.listLaws_updPort (fun q other => ?_) ?_)
    · rw [State.bufferInFlight_eq rfl, decide_eq_false (Ne.symm other)]
      exact free q
    · rw [State.bufferInFlight_eq rfl, decide_eq_true rfl]
      exact mounted (free p)

/-! #### The ends of the array's operations -/

/-- When the operation in flight has ended, only the list of its own port may still have to follow. -/
theorem State.ListLaws.landed {s : State} (law : s.ListLaws) {g : Segment} (flight : s.inFlight = some (.segment g))
    {q : Port} (other : q ≠ g.port ∨ g.cmd.usesBuffer = false) : (s.port q).ListLaw false := by
  have free : s.bufferInFlight q = false := by
    rw [State.bufferInFlight_eq flight]
    obtain other | other := other
    · simp [Ne.symm other]
    · simp [other]
  exact free ▸ law q

/-- The end of an operation that uses no buffer. -/
theorem State.ListLaws.landed_beside {s : State} (law : s.ListLaws) {g : Segment}
    (flight : s.inFlight = some (.segment g)) (other : g.cmd.usesBuffer = false) (array : Memory) :
    { s.landed with array := array }.ListLaws := by
  intro q
  rw [State.bufferInFlight_of_idle rfl]
  exact law.landed flight (.inr other)

/-- The ACTIVE entry whose segment is in flight, with the progress of its own command (R61, R71). -/
theorem State.owner_of_flight {s : State} (owner : s.ownerLaw = true) {g : Segment}
    (flight : s.inFlight = some (.segment g)) (owned : g.removed = false) :
    ∃ e a, (s.port g.port).activeEntry = some (e, a) ∧ e.cmd = g.cmd ∧ g.cmd.keeps a.progress = true := by
  obtain ⟨-, law⟩ := s.ownerLaw_iff.mp owner
  obtain ⟨e, a, active, cmd⟩ := (law g.port).segment g (State.own_of_flight flight owned)
  exact ⟨e, a, active, cmd, cmd ▸ ((law g.port).entry e a active).1⟩

theorem State.ListLaws.readEnd {s : State} (law : s.ListLaws) (owner : s.ownerLaw = true) {g : Segment} {i : Index}
    {start count : Nat} (flight : s.inFlight = some (.segment g)) (cmd : g.cmd = .read i start count)
    (report : ReadReport) : (s.readEnd g count report).ListLaws := by
  have others (q : Port) (other : q ≠ g.port) : (s.landed.port q).ListLaw (s.landed.bufferInFlight q) := by
    rw [State.bufferInFlight_of_idle rfl]
    exact law.landed flight (.inl other)
  unfold State.readEnd
  cases owned : g.removed with
  | true =>
    refine State.listLaws_updPort others ?_
    rw [State.bufferInFlight_of_idle rfl]
    exact (law g.port).dropInArray
  | false =>
    obtain ⟨e, a, active, same, keeps⟩ := State.owner_of_flight owner flight owned
    have command := PortUnit.activeCommand_of_active active
    rw [same, cmd] at command
    rw [cmd] at keeps
    simp only [Bool.false_eq_true, if_false, active]
    cases progress : a.progress with
    | read r =>
      have reported : (s.landed.updPort g.port fun u => u.readReport r count report).ListLaws := by
        refine State.listLaws_updPort others ?_
        rw [State.bufferInFlight_of_idle rfl]
        exact (law g.port).readReport command r count report
      dsimp only
      split
      · exact reported.finish (State.ownSegment_of_landed rfl _) _
      · exact reported.completeRead _
    | _ =>
      rw [progress] at keeps
      cases keeps

theorem State.ListLaws.checkEnd {s : State} (law : s.ListLaws) {g : Segment} {i : Index} {start count : Nat}
    (flight : s.inFlight = some (.segment g)) (cmd : g.cmd = .check i start count) (report : ReadReport) :
    (s.checkEnd g count report).ListLaws := by
  have landed : s.landed.ListLaws := law.landed_beside flight (by rw [cmd]; rfl) s.array
  unfold State.checkEnd
  split
  · exact landed
  split
  · exact landed
  split
  · have counted := fun pr => landed.of_samePool (State.samePool_setProgress s.landed g.port pr)
    dsimp only
    split
    · exact (counted _).finish (State.ownSegment_of_landed rfl _) _
    split
    · exact (counted _).finish (State.ownSegment_of_landed rfl _) _
    · exact counted _
  · exact landed

/-- What the report of a WRITE's program does to the lists, when the program has ended (R92, R124 to R126). -/
theorem State.listLaws_writeReport {s : State} {p : Port} (idle : s.inFlight = none)
    (others : ∀ q, q ≠ p → (s.port q).ListLaw false) (law : (s.port p).ListLaw true) {e : Entry} {a : Active}
    (active : (s.port p).activeEntry = some (e, a)) {i : Index} {start count : Nat}
    (command : (s.port p).activeCommand = some (.write i start count)) (n : Nat) (w : WriteProgress)
    (report : ProgramReport) : (s.writeReport p n w a.abortPending report).ListLaws := by
  have free := State.bufferInFlight_of_idle idle
  have stopped (st : Status) : ((s.updPort p fun u => u.stoppedAt w).finish p st).ListLaws := by
    have landed : (s.updPort p fun u => u.stoppedAt w).inFlight = none := idle
    refine State.listLaws_finish_of_landed landed ?_ (fun q other => ?_) st
    · rw [State.port_updPort_same, PortUnit.stoppedAt, PortUnit.activeEntry_setProgress _ active]
      simp
    · rw [State.port_updPort_of_ne _ _ other]
      exact others q other
  cases report with
  | written =>
    have freed : (s.updPort p fun u => u.programmedOne w).ListLaws := by
      refine State.listLaws_updPort (fun q other => free q ▸ others q other) ?_
      rw [free]
      exact law.programmedOne command w
    have own : (s.updPort p fun u => u.programmedOne w).ownSegment p = false := State.ownSegment_of_landed idle p
    unfold State.writeReport
    dsimp only
    split
    · exact freed.finish own _
    split
    · exact freed.finish own _
    · exact freed
  | _ => exact stopped _

theorem State.ListLaws.writeEnd {s : State} (law : s.ListLaws) (owner : s.ownerLaw = true) {g : Segment} {i : Index}
    {start count : Nat} (flight : s.inFlight = some (.segment g)) (cmd : g.cmd = .write i start count) (n : Nat)
    (data : List Byte) (ok : Bool) : (s.writeEnd g i count n data ok).ListLaws := by
  have same := s.samePool_programmed i g.port n data ok
  have idle : (s.programmed i g.port n data ok).inFlight = none := same.inFlight
  have none := State.bufferInFlight_of_idle idle
  have others (q : Port) (other : q ≠ g.port) : ((s.programmed i g.port n data ok).port q).ListLaw false :=
    (same.port q).listLaw (law.landed flight (.inl other))
  have here : (s.port g.port).ListLaw true := by
    have uses : s.bufferInFlight g.port = true := by simp [State.bufferInFlight_eq flight, cmd, QueuedCommand.usesBuffer]
    exact uses ▸ law g.port
  have port := s.port_programmed i g.port n data ok
  unfold State.writeEnd
  cases owned : g.removed with
  | true =>
    refine State.listLaws_updPort (fun q other => none q ▸ others q other) ?_
    rw [none, port]
    exact here.dropInArray
  | false =>
    obtain ⟨e, a, active, cmd', keeps⟩ := State.owner_of_flight owner flight owned
    have command := PortUnit.activeCommand_of_active active
    rw [cmd', cmd] at command
    rw [cmd] at keeps
    simp only [Bool.false_eq_true, if_false, port, active]
    cases progress : a.progress with
    | write w =>
      rw [← port] at here active command
      exact State.listLaws_writeReport idle others here active command count w _
    | _ =>
      rw [progress] at keeps
      cases keeps

theorem State.ListLaws.blanked {s : State} (law : s.ListLaws) {g : Segment} (flight : s.inFlight = some (.segment g))
    (other : g.cmd.usesBuffer = false) (i : Index) (b : Nat) : (s.blanked i g.port b).ListLaws :=
  (law.landed_beside flight other _).of_samePool (State.samePool_riseCount _ i g.port)

theorem State.ListLaws.blankEnd {s : State} (law : s.ListLaws) {g : Segment} {i : Index} {first count : Nat}
    (flight : s.inFlight = some (.segment g)) (cmd : g.cmd = .blank i first count) (b : Nat) :
    (s.blankEnd g i count b).ListLaws := by
  have blanked := law.blanked flight (by rw [cmd]; rfl) i b
  unfold State.blankEnd
  dsimp only
  split
  · exact blanked
  split
  · exact blanked
  split
  · have counted := fun pr => blanked.of_samePool (State.samePool_setProgress (s.blanked i g.port b) g.port pr)
    split
    · exact (counted _).finish (State.ownSegment_of_landed rfl _) _
    split
    · exact (counted _).finish (State.ownSegment_of_landed rfl _) _
    · exact counted _
  · exact blanked

theorem State.ListLaws.wipeBlockEnd {s : State} (law : s.ListLaws) {g : Segment} {i : Index} {which : Which} {key : Key}
    (flight : s.inFlight = some (.segment g)) (cmd : g.cmd = .wipe i which key) (b : Nat) :
    (s.wipeBlockEnd g i b).ListLaws := by
  have blanked := law.blanked flight (by rw [cmd]; rfl) i b
  unfold State.wipeBlockEnd
  dsimp only
  split
  · exact blanked
  split
  · exact blanked
  split
  · have counted := fun pr => blanked.of_samePool (State.samePool_setProgress (s.blanked i g.port b) g.port pr)
    split
    · exact ((counted _).finish (State.ownSegment_of_landed rfl _) _).of_samePool (State.samePool_leaveTableState _ _)
    · exact counted _
  · exact blanked

/-! #### The table segment, the load and the resets -/

theorem QueuedCommand.usesBuffer_of_holdsTable {c : QueuedCommand} (h : c.holdsTable = true) : c.usesBuffer = false := by
  cases c with
  | read | write => cases h
  | _ => rfl

/-- A table segment uses no buffer (R68). -/
theorem State.usesBuffer_of_table {s : State} (owner : s.ownerLaw = true) {g : Segment}
    (flight : s.inFlight = some (.segment g)) (table : g.work.ofTable = true) : g.cmd.usesBuffer = false :=
  QueuedCommand.usesBuffer_of_holdsTable
    (QueuedCommand.holdsTable_of_does ((s.ownerLaw_iff.mp owner).1 g flight) table)

theorem State.ListLaws.goOn {s : State} (law : s.ListLaws) {g : Segment} (flight : s.inFlight = some (.segment g))
    (w : Work) (array : Memory) : (s.goOn g w array).ListLaws := by
  intro q
  have same : (s.goOn g w array).bufferInFlight q = s.bufferInFlight q := by
    rw [State.bufferInFlight_eq flight, State.bufferInFlight_eq (g := { g with work := w }) rfl]
  rw [same]
  exact law q

theorem State.ListLaws.headerEnd {s : State} (law : s.ListLaws) (owner : s.ownerLaw = true) {g : Segment} {new : Table}
    (flight : s.inFlight = some (.segment g)) (work : g.work = .tableHeader new) (ok : Bool) :
    (s.headerEnd g new ok).ListLaws := by
  have other := State.usesBuffer_of_table owner flight (by rw [work]; rfl)
  unfold State.headerEnd
  dsimp only
  split
  · exact law.goOn flight _ _
  · exact ((law.landed_beside flight other _).tableFault rfl _ _ _).settle

theorem State.ListLaws.endChanged {s : State} (law : s.ListLaws) (idle : s.inFlight = none) (g : Segment) (new : Table) :
    (s.endChanged g new).ListLaws := by
  have ends {s : State} (law : s.ListLaws) (idle : s.inFlight = none) (q : Port) : (s.endIfChanged g new q).ListLaws := by
    unfold State.endIfChanged
    split
    · exact law.finish (State.ownSegment_of_landed idle q) _
    · exact law
  have idleA := (s.sameCourse_endIfChanged g new .a).inFlight.trans idle
  have idleB := (State.sameCourse_endIfChanged _ g new .b).inFlight.trans idleA
  exact ends (ends (ends law idle .a) idleA .b) idleB .c

theorem State.ListLaws.switchover {s : State} (law : s.ListLaws) (idle : s.inFlight = none) (g : Segment) (new : Table) :
    (s.switchover g new).ListLaws := by
  have live := (law.endChanged idle g new).of_samePool (State.samePool_makeLive _ g new)
  have landed : ((s.endChanged g new).makeLive g new).inFlight = none :=
    (s.sameCourse_endChanged g new).inFlight.trans idle
  unfold State.switchover
  dsimp only
  split
  · exact live
  · exact live.finish (State.ownSegment_of_landed landed _) _

theorem State.ListLaws.recordsEnd {s : State} (law : s.ListLaws) (owner : s.ownerLaw = true) {g : Segment} {new : Table}
    (flight : s.inFlight = some (.segment g)) (work : g.work = .tableRecords new) (ok : Bool) :
    (s.recordsEnd g new ok).ListLaws := by
  have other := State.usesBuffer_of_table owner flight (by rw [work]; rfl)
  unfold State.recordsEnd
  dsimp only
  split
  · exact ((law.landed_beside flight other _).switchover rfl g new).settle
  · exact ((law.landed_beside flight other _).tableFault rfl _ _ _).settle

/-- No segment is in flight before or after, and the lists stay. -/
theorem State.ListLaws.of_no_segment {s t : State} (law : s.ListLaws) (before : ∀ g, s.inFlight ≠ some (.segment g))
    (after : ∀ g, t.inFlight ≠ some (.segment g)) (port : ∀ p, (s.port p).SamePool (t.port p)) : t.ListLaws := by
  intro p
  have free := law p
  rw [State.bufferInFlight_of_no_segment before] at free
  rw [State.bufferInFlight_of_no_segment after]
  exact (port p).listLaw free

theorem State.ListLaws.loadEnd {s : State} (law : s.ListLaws) {got : List ReadReport}
    (flight : s.inFlight = some (.load got)) (got' : List ReadReport) : (s.loadEnd got').ListLaws := by
  have before : ∀ g, s.inFlight ≠ some (.segment g) := by simp [flight]
  unfold State.loadEnd
  split
  · exact law.of_no_segment before (by simp) fun _ => .refl _
  · refine State.ListLaws.settle (law.of_no_segment before (by simp [State.loaded, State.landed]) fun p => ?_)
    show (s.port p).SamePool ((PerPort.mapPorts _ _).get p)
    rw [PerPort.get_mapPorts]
    exact ⟨rfl, rfl, rfl, rfl⟩

/-- A port reset removes the entry that owns the segment in flight, and keeps the buffer the segment uses (R73, R104). -/
theorem State.bufferInFlight_clearPort (s : State) (p q : Port) :
    (s.clearPort p).bufferInFlight q = s.bufferInFlight q := by
  unfold State.bufferInFlight
  rw [State.inFlight_clearPort]
  cases s.inFlight with
  | none => rfl
  | some f =>
    cases f with
    | load got => rfl
    | segment g =>
      simp only [Option.map_some, InFlight.removeOwner]
      split <;> rfl

theorem State.ListLaws.resetPort {s : State} (law : s.ListLaws) (p : Port) : (s.resetPort p).ListLaws := by
  have cleared : (s.clearPort p).ListLaws := by
    intro q
    rw [State.bufferInFlight_clearPort]
    by_cases here : q = p
    · subst here
      rw [State.port_clearPort_same]
      refine PortUnit.listLaw_ended (u := s.port q) (removed := s.segmentOf q) rfl (fun _ => law q) fun none => ?_
      obtain ⟨own, removed⟩ := Bool.or_eq_false_iff.mp none
      exact State.bufferInFlight_of_not_segmentOf own removed
    · rw [State.port_clearPort_of_ne s here]
      exact law q
  refine State.ListLaws.of_samePool (cleared.updPort ?_) (s.samePool_resetPort p)
  exact ⟨(cleared p).form, (cleared p).inArray⟩

/-- A part reset and the supply clear every port (R183). -/
theorem State.listLaws_of_wiped (s : State) (begun : Bool) {t : State} (ports : t.ports = (s.wiped begun).ports)
    (idle : ∀ g, t.inFlight ≠ some (.segment g)) : t.ListLaws := by
  intro p
  obtain ⟨level, unit⟩ := s.port_wiped begun p
  rw [State.bufferInFlight_of_no_segment idle, show t.port p = _ from (congrArg (PerPort.get · p) ports).trans unit]
  exact ⟨.of_short (.inl rfl) _, by simp [PortUnit.states, PortUnit.reset]⟩

/-- The release of RESET begins the load: no segment is in flight under RESET (R183). -/
theorem State.ListLaws.releaseReset {s : State} (law : s.ListLaws) (flight : s.flightLaw = true)
    (line : s.resetLine = true) : s.releaseReset.ListLaws := by
  have before : ∀ g, s.inFlight ≠ some (.segment g) := by
    intro g there
    simp [State.flightLaw, there, line] at flight
  refine law.of_no_segment before (fun g there => ?_) fun _ => .refl _
  unfold State.releaseReset at there
  dsimp only at there
  split at there
  · exact startLoad_ne_segment _ g there
  · exact before g there

/-! #### Expiries -/

theorem State.ListLaws.stallExpiry {s : State} (law : s.ListLaws) (p : Port) : (s.stallExpiry p).ListLaws := by
  unfold State.stallExpiry
  split
  · rename_i due
    obtain ⟨_, -, -, waits⟩ := (s.stallDue_iff p).mp due
    have own : s.ownSegment p = false := by rw [State.ownSegment_eq, State.own_of_waitsOnData waits]; rfl
    exact (law.finish own _).settle
  · exact law

theorem State.ListLaws.leaseExpiry {s : State} (law : s.ListLaws) : s.leaseExpiry.ListLaws := by
  unfold State.leaseExpiry State.loseClaim
  repeat' split
  · exact law.of_samePool (s.samePool_updPort_with _ _ _ ⟨rfl, rfl, rfl, rfl⟩)
  all_goals exact law

theorem State.ListLaws.standbyExpiry {s : State} (law : s.ListLaws) : s.standbyExpiry.ListLaws := by
  unfold State.standbyExpiry
  split
  · exact State.ListLaws.settle (law.of_samePool ⟨rfl, fun _ => .refl _⟩)
  · exact law

theorem State.ListLaws.wakeEnd {s : State} (law : s.ListLaws) : s.wakeEnd.ListLaws := by
  unfold State.wakeEnd
  split
  · exact State.ListLaws.settle (law.of_samePool ⟨rfl, fun _ => .refl _⟩)
  · exact law

theorem State.Event.listLaws {s t : State} (e : s.Event t) (law : s.ListLaws) (flight : s.flightLaw = true)
    (owner : s.ownerLaw = true) : t.ListLaws := by
  cases e with
  | nothing => exact law
  | commandStart p => exact law.commandStart p
  | grant may _ work _ => exact law.grant may work
  | readEnd flight cmd _ => exact (law.readEnd owner flight cmd _).settle
  | checkEnd flight cmd _ => exact (law.checkEnd flight cmd _).settle
  | writeEnd ok flight cmd _ => exact (law.writeEnd owner flight cmd _ _ ok).settle
  | blankEnd flight cmd _ => exact (law.blankEnd flight cmd _).settle
  | wipeBlockEnd flight cmd _ => exact (law.wipeBlockEnd flight cmd _).settle
  | tableBlankEnd flight _ => exact law.goOn flight _ _
  | headerEnd ok flight work => exact law.headerEnd owner flight work ok
  | recordsEnd ok flight work => exact law.recordsEnd owner flight work ok
  | loadEnd flight => exact law.loadEnd flight _
  | standbyExpiry => exact law.standbyExpiry
  | wakeEnd => exact law.wakeEnd
  | leaseExpiry => exact law.leaseExpiry
  | stallExpiry p => exact law.stallExpiry p
  | tick => exact law.of_samePool s.samePool_tick
  | resetPort p _ _ => exact law.resetPort p
  | withPrst p level => exact law.of_samePool (s.samePool_updPort ⟨rfl, rfl, rfl, rfl⟩)
  | partReset begun _ => exact s.listLaws_of_wiped begun rfl fun g there => by cases there
  | partResetUnpowered _ => exact law.of_samePool ⟨rfl, fun _ => .refl _⟩
  | releaseReset line => exact law.releaseReset flight line
  | powerOn begun => exact s.listLaws_of_wiped begun rfl (startLoad_ne_segment _)
  | powerLoss begun _ => exact s.listLaws_of_wiped begun rfl fun g there => by cases there

/-- What the law of the lists needs before a step. -/
structure State.ListsReady (s : State) : Prop where
  queues : s.atPorts PortUnit.queueLaw = true
  flight : s.flightLaw = true
  owner : s.ownerLaw = true
  lists : s.ListLaws

/-- Settles O18: each access and each event moves the buffers of a list from one form of R91 to another, and a buffer is
IN_ARRAY from the grant of its segment to the segment's end. -/
theorem transferListsKeepTheirForm : Obligations.TransferListsKeepTheirForm := by
  intro s t queues flight owner lists h p
  have before : s.ListsReady := ⟨queues, flight, owner, fun p => (s.listLaw_iff p).mp (lists p)⟩
  refine (t.listLaw_iff p).mpr (step_induction (I := State.ListsReady) (J := State.ListLaws) ?_ ?_ (fun _ _ _ h => h)
    ?_ ?_ h before p)
  · exact fun _ _ h => ⟨h.queues, h.flight, h.owner, h.lists⟩
  · exact fun _ _ _ h => ⟨h.queues, h.flight, h.owner, h.lists⟩
  · exact fun h e => e.pool.listLaws h.lists (State.queuedBehind_of_queueLaw h.queues _)
  · exact fun h e => e.listLaws h.lists h.flight h.owner

end Sys2Proof.Machine

namespace Sys2Proof.Machine

/-! ### The allocation rule (R85, R86, R88) -/

/-- Two ports other than `p` are the two that follow it in the order A, B, C, A, one way round or the other. -/
theorem nextPort_of_distinct {p q r : Port} (pq : p ≠ q) (pr : p ≠ r) (qr : q ≠ r) :
    (q = nextPort p ∧ r = nextPort (nextPort p)) ∨ (r = nextPort p ∧ q = nextPort (nextPort p)) := by
  have other (x : Port) (h : p ≠ x) : x = nextPort p ∨ x = nextPort (nextPort p) := by
    cases p <;> cases x <;> simp [nextPort] at h ⊢
  obtain rfl | rfl := other q pq <;> obtain rfl | rfl := other r pr
  · exact absurd rfl qr
  · exact .inl ⟨rfl, rfl⟩
  · exact .inr ⟨rfl, rfl⟩
  · exact absurd rfl qr

theorem State.heldCount_eq (s : State) (p : Port) :
    s.heldCount =
      (s.port p).holding + ((s.port (nextPort p)).holding + (s.port (nextPort (nextPort p))).holding) := by
  cases p
  all_goals
    simp only [State.heldCount, nextPort]
    omega

theorem State.othersUnmet_eq (s : State) (p : Port) :
    s.othersUnmet p = (s.port (nextPort p)).unmet + (s.port (nextPort (nextPort p))).unmet := by
  cases p
  · rfl
  · exact Nat.add_comm _ _
  · rfl

/-- The free count and the unmet guarantees of the two other ports, whichever way round these are named. -/
theorem State.allocation {s : State} {p q r : Port} (pq : p ≠ q) (pr : p ≠ r) (qr : q ≠ r) :
    s.freeCount = 24 - ((s.port p).holding + (s.port q).holding + (s.port r).holding) ∧
      s.othersUnmet p = (s.port q).unmet + (s.port r).unmet := by
  rw [State.freeCount, s.heldCount_eq p, s.othersUnmet_eq p, Nat.add_assoc]
  obtain ⟨rfl, rfl⟩ | ⟨rfl, rfl⟩ := nextPort_of_distinct pq pr qr
  · exact ⟨rfl, rfl⟩
  · rw [Nat.add_comm (PortUnit.holding _) (PortUnit.holding (s.port (nextPort p))), Nat.add_comm (PortUnit.unmet _)]
    exact ⟨rfl, rfl⟩

/-! ### DATA writes (R96, R98) -/

section

variable {s : State} {p : Port} {e : Entry} {a : Active} {i : Index} {start count : Nat}

theorem exec_dataWrite (made : s.accessMade p false 21 = true) (w : Word) :
    exec (.dataWrite p w) s = .next ((s.dataWrite p w).passWord p) := by
  show Host.Outcome.next _ = _
  rw [State.onWrite_of_made _ made]

/-- The ACTIVE WRITE takes a word. -/
structure State.WriteOpen (s : State) (p : Port) (e : Entry) (a : Active) (i : Index) (start count : Nat) : Prop where
  active : (s.port p).activeEntry = some (e, a)
  cmd : e.cmd = .write i start count
  kept : a.abortPending = false
  left : (s.port p).moved < count * 512

theorem State.dataWrite_of_open (h : s.WriteOpen p e a i start count) (w : Word) :
    s.dataWrite p w =
      if (s.port p).hasFilling then (s.updPort p fun u => u.fill w).settle
      else if s.mayTake p then (s.updPort p fun u => u.beginSector w).settle
      else s.refuseData p := by
  obtain ⟨active, cmd, kept, left⟩ := h
  simp [State.dataWrite, active, cmd, kept, left, Config.sectorBytes]

/-- Without such a WRITE the word is dropped. -/
theorem State.dataWrite_of_closed
    (closed : ∀ e a i start count, (s.port p).activeEntry = some (e, a) → e.cmd = .write i start count →
      a.abortPending = true ∨ count * 512 ≤ (s.port p).moved) (w : Word) : s.dataWrite p w = s.refuseData p := by
  unfold State.dataWrite
  split
  · rfl
  rename_i e a active
  split
  · rename_i i start count cmd
    refine if_neg fun isOpen => ?_
    simp only [Bool.and_eq_true, Bool.not_eq_true', decide_eq_true_eq] at isOpen
    obtain ⟨kept, left⟩ := isOpen
    obtain pending | done := closed e a i start count active cmd
    · simp [kept] at pending
    · exact absurd left (Nat.not_lt.mpr done)
  all_goals rfl

theorem State.dataWrite_of_filling (h : s.WriteOpen p e a i start count) {older : List Buffer} {b : Buffer}
    (transfers : (s.port p).transfers = older ++ [b]) (filling : b.state = .filling) (w : Word) :
    s.dataWrite p w = (s.updPort p fun u => u.fill w).settle := by
  rw [State.dataWrite_of_open h, if_pos ((s.port p).hasFilling_iff.mpr ⟨older, b, transfers, filling⟩)]

/-- A word into the FILLING buffer, short of its 512th byte. -/
theorem State.dataWrite_filling (h : s.WriteOpen p e a i start count) {older : List Buffer} {b : Buffer}
    (transfers : (s.port p).transfers = older ++ [b]) (filling : b.state = .filling)
    (short : (s.port p).offset + 2 < 512) (w : Word) :
    s.dataWrite p w =
      (s.setPort p
        { s.port p with
          transfers :=
            older ++ [{ b with data := b.data.take (s.port p).offset ++ [w.setWidth 8, (w >>> 8).setWidth 8] }],
          offset := (s.port p).offset + 2, moved := (s.port p).moved + 2 }).settle := by
  rw [State.dataWrite_of_filling h transfers filling, State.updPort, PortUnit.fill_of_filling transfers,
    if_neg (by omega)]
  rfl

/-- The 512th byte of a buffer makes it FULL. -/
theorem State.dataWrite_full (h : s.WriteOpen p e a i start count) {older : List Buffer} {b : Buffer}
    (transfers : (s.port p).transfers = older ++ [b]) (filling : b.state = .filling)
    (last : (s.port p).offset + 2 = 512) (w : Word) :
    s.dataWrite p w =
      (s.setPort p
        { s.port p with
          transfers :=
            older ++ [{ b with state := .full, data := b.data.take (s.port p).offset ++
              [w.setWidth 8, (w >>> 8).setWidth 8] }],
          offset := 0, moved := (s.port p).moved + 2,
          stallTimer := (s.port p).stallTimer.map fun _ => 0 }).settle := by
  rw [State.dataWrite_of_filling h transfers filling, State.updPort, PortUnit.fill_of_filling transfers, if_pos last]
  rfl

end

/-- Settles O42: the allocation rule in R88's words, and a DATA write by the state of the newest buffer. -/
theorem dataWritesFillOrAreDropped : Obligations.DataWritesFillOrAreDropped := by
  refine ⟨fun s p q r free unmet pq pr qr free_eq unmet_eq => ?_, fun s p w made => ?_⟩
  · obtain ⟨count, others⟩ := State.allocation (s := s) pq pr qr
    have count : s.freeCount = free := count.trans free_eq.symm
    have others : s.othersUnmet p = unmet := others.trans unmet_eq.symm
    refine ⟨count, others, ?_⟩
    rw [State.mayTake_iff, count, others]
    rfl
  rw [exec_dataWrite made]
  refine ⟨fun e a i start count active cmd kept left => ?_, fun closed => ?_⟩
  · have writing : s.WriteOpen p e a i start count := ⟨active, cmd, kept, left⟩
    refine ⟨fun older b transfers filling => ⟨fun short => ?_, fun last => ?_⟩, fun none => ?_⟩
    · rw [State.dataWrite_filling writing transfers filling short]
    · rw [State.dataWrite_full writing transfers filling last]
    · rw [State.dataWrite_of_open writing, (s.port p).hasFilling_eq_false_iff.mpr none, if_neg Bool.false_ne_true]
      refine ⟨fun may => ?_, fun may => ?_⟩
      · rw [may, if_pos rfl]
        rfl
      · rw [may, if_neg Bool.false_ne_true]
        rfl
  · rw [State.dataWrite_of_closed closed]
    rfl

end Sys2Proof.Machine

namespace Sys2Proof.Machine

section

/-! ### DATA reads (R97, R98, R112, R113) -/

variable {s : State} {p : Port} {e : Entry} {a : Active} {i : Index} {start count : Nat} {r : ReadProgress} {b : Buffer}
  {rest : List Buffer}

theorem exec_dataRead (made : s.accessMade p true 21 = true) :
    exec (.dataRead p) s = .next ((s.dataRead p).passWord p) := by
  show Host.Outcome.next _ = _
  rw [if_pos made]

/-- The ACTIVE READ gives a word, out of the buffer `b`. -/
structure State.ReadOpen (s : State) (p : Port) (e : Entry) (a : Active) (i : Index) (start count : Nat)
    (r : ReadProgress) (b : Buffer) (rest : List Buffer) : Prop where
  active : (s.port p).activeEntry = some (e, a)
  cmd : e.cmd = .read i start count
  progress : a.progress = .read r
  kept : a.abortPending = false
  transfers : (s.port p).transfers = b :: rest
  full : b.state = .ready ∨ b.state = .draining

/-- The port unit after a word has been taken that is not the last of its buffer (R97). -/
def PortUnit.drained (u : PortUnit) (w : Word) (b : Buffer) (rest : List Buffer) : PortUnit :=
  { u with
    dataOut := w, transfers := { b with state := .draining } :: rest, offset := u.offset + 2, moved := u.moved + 2 }

/-- The READ's progress after a sector has been delivered (R112). -/
def ReadProgress.delivered (r : ReadProgress) (b : Buffer) : ReadProgress :=
  { r with sectorsDone := r.sectorsDone + 1, blankMet := r.blankMet + (if b.blankMark then 1 else 0) }

/-- The port unit after the last word of a buffer has been taken (R112, R81). -/
def PortUnit.freed (u : PortUnit) (w : Word) (e : Entry) (a : Active) (r1 : ReadProgress) (rest : List Buffer) :
    PortUnit :=
  { u with
    dataOut := w, transfers := rest, offset := 0, moved := u.moved + 2, stallTimer := u.stallTimer.map fun _ => 0,
    queue := { e with active := some { a with progress := .read r1 } } :: u.queue.tail }

theorem State.dataRead_of_open (h : s.ReadOpen p e a i start count r b rest) :
    s.dataRead p =
      (((s.output p (b.wordAt (s.port p).offset)).updPort p fun u => u.drain b rest r).completeRead p).settle := by
  obtain ⟨active, cmd, progress, kept, transfers, full⟩ := h
  simp [State.dataRead, active, cmd, progress, kept, transfers, full]

/-- Without such a READ and buffer the read is empty. -/
theorem State.dataRead_of_closed
    (closed : ∀ e a i start count r b rest, (s.port p).activeEntry = some (e, a) → e.cmd = .read i start count →
      a.progress = .read r → a.abortPending = false → (s.port p).transfers = b :: rest →
      b.state ≠ .ready ∧ b.state ≠ .draining) : s.dataRead p = s.emptyRead p := by
  unfold State.dataRead
  split
  · rfl
  rename_i e a active
  split
  · rename_i i start count r cmd progress
    split
    · rfl
    rename_i kept
    split
    · rfl
    rename_i b rest transfers
    obtain ⟨notReady, notDraining⟩ :=
      closed e a i start count r b rest active cmd progress (by simpa using kept) transfers
    exact if_neg (not_or.mpr ⟨notReady, notDraining⟩)
  · rfl

theorem PortUnit.drain_of_short (u : PortUnit) (w : Word) (b : Buffer) (rest : List Buffer) (r : ReadProgress)
    (short : u.offset + 2 < 512) : { u with dataOut := w }.drain b rest r = u.drained w b rest := by
  unfold PortUnit.drain
  rw [if_neg (by simp only [Config.sectorBytes]; omega)]
  rfl

theorem PortUnit.drain_of_last {u : PortUnit} (active : u.activeEntry = some (e, a)) (w : Word) (b : Buffer)
    (rest : List Buffer) (r : ReadProgress) (last : u.offset + 2 = 512) :
    { u with dataOut := w }.drain b rest r = u.freed w e a (r.delivered b) rest := by
  unfold PortUnit.drain
  rw [if_pos (by simpa only [Config.sectorBytes] using last)]
  exact PortUnit.setProgress_of_active (u := { u with
    dataOut := w, transfers := rest, offset := 0, moved := u.moved + 2, stallTimer := restartTimer u.stallTimer })
    active _

/-- A READ that still has something to deliver stays ACTIVE (R113). -/
theorem State.completeRead_of_open
    (more : ∀ e a i start count r, (s.port p).activeEntry = some (e, a) → e.cmd = .read i start count →
      a.progress = .read r → r.readingClosed = false ∨ s.ownSegment p = true ∨ (s.port p).transfers ≠ []) :
    s.completeRead p = s := by
  unfold State.completeRead
  split
  · rfl
  rename_i e a active
  split
  · rename_i i start count r cmd progress
    refine if_neg fun done => ?_
    simp only [Bool.and_eq_true, Bool.not_eq_true', List.isEmpty_iff] at done
    obtain ⟨⟨closed, own⟩, empty⟩ := done
    obtain reading | flight | left := more e a i start count r active cmd progress
    · simp [closed] at reading
    · simp [own] at flight
    · exact left empty
  · rfl

/-- A READ with nothing left to deliver completes, with the record of R117 (R113). -/
theorem State.completeRead_of_done (active : (s.port p).activeEntry = some (e, a)) (cmd : e.cmd = .read i start count)
    (progress : a.progress = .read r) (closed : r.readingClosed = true) (own : s.ownSegment p = false)
    (empty : (s.port p).transfers = []) :
    s.completeRead p =
      s.endedWith p
        { Completion.bare e.tag 1 (s.readStatus i r) with
          partition := some i, sectorsDone := some r.sectorsDone, blankMet := some r.blankMet, failAt := r.failAt,
          genStart := some r.genStart, genEnd := some s.counts[i] } := by
  have done : s.completeRead p = s.finish p (s.readStatus i r) := by
    simp [State.completeRead, active, cmd, progress, closed, own, empty]
  have record (st : Status) : s.endRecord e a.progress st =
      { Completion.bare e.tag 1 st with
        partition := some i, sectorsDone := some r.sectorsDone, blankMet := some r.blankMet, failAt := r.failAt,
        genStart := some r.genStart, genEnd := some s.counts[i] } := by
    simp [State.endRecord, cmd, progress, QueuedCommand.code, QueuedCommand.part]
  rw [done, State.finish_of_active _ active, record]
  rfl

theorem State.dataRead_short (h : s.ReadOpen p e a i start count r b rest) (short : (s.port p).offset + 2 < 512) :
    s.dataRead p = (s.setPort p ((s.port p).drained (b.wordAt (s.port p).offset) b rest)).settle := by
  rw [State.dataRead_of_open h, State.output, State.updPort_updPort, State.updPort,
    PortUnit.drain_of_short _ _ _ _ _ short, State.completeRead_of_open]
  intro _ _ _ _ _ _ _ _ _
  rw [State.port_setPort_same]
  exact .inr (.inr (List.cons_ne_nil _ _))

/-- The state after the last word of a buffer, before the READ is seen to be complete. -/
theorem State.dataRead_last (h : s.ReadOpen p e a i start count r b rest) (last : (s.port p).offset + 2 = 512) :
    s.dataRead p =
      ((s.setPort p ((s.port p).freed (b.wordAt (s.port p).offset) e a (r.delivered b) rest)).completeRead p).settle := by
  rw [State.dataRead_of_open h, State.output, State.updPort_updPort, State.updPort,
    PortUnit.drain_of_last h.active _ _ _ _ last]

/-- The ACTIVE entry with a sector more delivered. -/
theorem State.activeEntry_freed (s : State) (p : Port) (w : Word) (e : Entry) (a : Active) (r1 : ReadProgress)
    (rest : List Buffer) :
    ((s.setPort p ((s.port p).freed w e a r1 rest)).port p).activeEntry =
      some ({ e with active := some { a with progress := .read r1 } }, { a with progress := .read r1 }) := by
  rw [State.port_setPort_same]
  rfl

end

/-- Settles O43: a DATA read by the state of the oldest buffer, and the completion of the READ with its last buffer. -/
theorem dataReadsDrainOrAreEmpty : Obligations.DataReadsDrainOrAreEmpty := by
  intro s p made
  rw [exec_dataRead made]
  refine ⟨?_, fun closed => ?_⟩
  · rintro e a i start count r b rest active cmd progress kept transfers full word rfl
    have reading : s.ReadOpen p e a i start count r b rest := ⟨active, cmd, progress, kept, transfers, full⟩
    refine ⟨fun short => ?_, ?_⟩
    · rw [State.dataRead_short reading short]
      rfl
    · rintro last r1 rfl s1 rfl
      rw [State.dataRead_last reading last]
      have active' := s.activeEntry_freed p (b.wordAt (s.port p).offset) e a (r.delivered b) rest
      set u := (s.port p).freed (b.wordAt (s.port p).offset) e a (r.delivered b) rest
      have here : (s.setPort p u).port p = u := State.port_setPort_same s p u
      refine ⟨fun more => ?_, fun closed own empty st st_eq => ?_⟩
      · rw [State.completeRead_of_open]
        · rfl
        · intro e' a' i' start' count' r' found _ progress'
          cases active'.symm.trans found
          cases progress'
          rw [here]
          exact more
      · have status : (s.setPort p u).readStatus i (r.delivered b) = st := st_eq ▸ rfl
        rw [State.completeRead_of_done active' cmd rfl closed own (by rw [here]; exact empty), status]
        rfl
  · rw [State.dataRead_of_closed closed, State.emptyRead, State.refuseData, State.output, State.updPort_updPort]
    rfl

end Sys2Proof.Machine

namespace Sys2Proof.Machine

/-! ### The report of a sector read (R4) -/

theorem readSector_of_blank {m : Memory} {n : Nat} (h : Memory.get m n = none) : readSector m n = .blank := by
  simp only [readSector, h]

theorem readSector_of_damaged {m : Memory} {n : Nat} (h : Memory.get m n = some .damaged) :
    readSector m n = .unreadable := by
  simp only [readSector, h]

theorem readSector_of_written {m : Memory} {n : Nat} {c : Content} {check : Nat}
    (h : Memory.get m n = some (.written c check)) : readSector m n = .data c := by
  simp only [readSector, h]

/-! ### The end of a READ's sector read (R110, R111, R113, R115) -/

theorem exec_readSectorReadEnd {s : State} {p : Port} {i : Index} {start count n : Nat} {removed : Bool}
    (flight : s.inFlight =
      some (.segment { port := p, cmd := .read i start count, removed := removed, work := .readSector n })) :
    exec .readSectorReadEnd s =
      .next (s.readEnd { port := p, cmd := .read i start count, removed := removed, work := .readSector n } count
        (readSector s.array n)).settle := by
  simp only [exec, execReadSectorReadEnd, flight]

/-- The transfer list of a READ after the report of its sector read (R110, R111). -/
def ReadReport.intoBuffers : ReadReport → List Buffer → List Buffer
  | .data c, bufs => bufs.map (Buffer.deliver c.toBytes false)
  | .blank, bufs => bufs.map (Buffer.deliver (List.replicate 512 0xFF) true)
  | .unreadable, bufs => bufs.filter fun b => decide (b.state ≠ .inArray)

/-- A report changes the ACTIVE READ's progress and its buffers, and nothing else of the port. -/
theorem State.updPort_readReport {s : State} {p : Port} {e : Entry} {a : Active}
    (active : (s.port p).activeEntry = some (e, a)) (r : ReadProgress) (count : Nat) (report : ReadReport) :
    (s.updPort p fun u => u.readReport r count report) =
      s.withProgress p e a (.read (r.reported count report)) (report.intoBuffers (s.port p).transfers) := by
  rw [State.updPort, State.withProgress]
  cases report with
  | unreadable => exact congrArg _ (PortUnit.setProgress_of_active (u := (s.port p).dropInArray) active _)
  | _ =>
    exact congrArg _ (PortUnit.setProgress_of_active
      (u := { s.port p with transfers := (s.port p).transfers.map _ }) active _)

/-- The end of a sector read of a READ that is still in its queue reports to it. -/
theorem State.readEnd_of_active {s : State} {g : Segment} {e : Entry} {a : Active} {r : ReadProgress}
    (owned : g.removed = false) (active : (s.port g.port).activeEntry = some (e, a)) (progress : a.progress = .read r)
    (count : Nat) (report : ReadReport) {t : State}
    (after : s.landed.withProgress g.port e a (.read (r.reported count report))
      (report.intoBuffers (s.port g.port).transfers) = t) :
    s.readEnd g count report = if a.abortPending then t.finish g.port .aborted else t.completeRead g.port := by
  have reported := (State.updPort_readReport (s := s.landed) active r count report).trans after
  simp only [State.readEnd, owned, active, progress, Bool.false_eq_true, if_false, reported]

theorem Buffer.deliver_of_other {b : Buffer} (other : b.state ≠ .inArray) (data : List Byte) (blank : Bool) :
    b.deliver data blank = b := if_neg other

/-- The sector goes into the buffer that is IN_ARRAY, the youngest one (R109, R110). -/
theorem map_deliver_append {older : List Buffer} {b : Buffer} (others : ∀ c ∈ older, c.state ≠ .inArray)
    (inArray : b.state = .inArray) (data : List Byte) (blank : Bool) :
    (older ++ [b]).map (Buffer.deliver data blank) =
      older ++ [{ b with state := .ready, data := data, blankMark := blank }] := by
  have same : older.map (Buffer.deliver data blank) = older :=
    (List.map_congr_left fun c mem => Buffer.deliver_of_other (others c mem) data blank).trans (List.map_id _)
  rw [List.map_append, same, List.map_singleton, Buffer.deliver, if_pos inArray]

/-- The buffer of a sector that cannot be read is freed (R111). -/
theorem filter_inArray_append {older : List Buffer} {b : Buffer} (others : ∀ c ∈ older, c.state ≠ .inArray)
    (inArray : b.state = .inArray) : ((older ++ [b]).filter fun b => decide (b.state ≠ .inArray)) = older := by
  have same : (older.filter fun b => decide (b.state ≠ .inArray)) = older :=
    List.filter_eq_self.mpr fun c mem => decide_eq_true (others c mem)
  rw [List.filter_append, same, List.filter_singleton]
  simp [inArray]

/-- The ACTIVE entry after its progress and the port's buffers have been replaced. -/
theorem State.activeEntry_withProgress (s : State) (p : Port) (e : Entry) (a : Active) (pr : Progress)
    (bufs : List Buffer) :
    ((s.withProgress p e a pr bufs).port p).activeEntry =
      some ({ e with active := some { a with progress := pr } }, { a with progress := pr }) := by
  rw [State.withProgress, State.port_setPort_same]
  rfl

theorem State.transfers_withProgress (s : State) (p : Port) (e : Entry) (a : Active) (pr : Progress)
    (bufs : List Buffer) : ((s.withProgress p e a pr bufs).port p).transfers = bufs := by
  rw [State.withProgress, State.port_setPort_same]

/-- A READ with a buffer to drain stays ACTIVE (R113). -/
theorem State.completeRead_withProgress_of_buffers {bufs : List Buffer} (left : bufs ≠ []) (s : State) (p : Port)
    (e : Entry) (a : Active) (pr : Progress) :
    (s.withProgress p e a pr bufs).completeRead p = s.withProgress p e a pr bufs := by
  refine State.completeRead_of_open fun _ _ _ _ _ _ _ _ _ => .inr (.inr ?_)
  rwa [State.transfers_withProgress]

/-- The end of an ACTIVE entry drops what its progress and its buffers were. -/
theorem State.endedWith_withProgress {s : State} (idle : s.inFlight = none) (p : Port) (e : Entry) (a : Active)
    (pr : Progress) (bufs : List Buffer) (record : Completion) :
    (s.withProgress p e a pr bufs).endedWith p record = s.endedWith p record := by
  have notRemoved : s.removedSegment p = false := by simp [State.removedSegment, idle]
  have notRemoved' : (s.withProgress p e a pr bufs).removedSegment p = false := notRemoved
  rw [State.endedWith, State.endedWith, notRemoved, notRemoved', State.withProgress, State.port_setPort_same,
    State.setPort_setPort]
  rfl

theorem ReadProgress.failAt_reported (r : ReadProgress) (count : Nat) (m : Memory) (n : Nat) :
    (r.reported count (readSector m n)).failAt =
      if Memory.get m n = some .damaged then some (r.nextSector - 1) else r.failAt := by
  cases sector : Memory.get m n with
  | none => simp [readSector_of_blank sector, ReadProgress.reported]
  | some content =>
    cases content with
    | damaged => simp [readSector_of_damaged sector, ReadProgress.reported]
    | written c check => simp [readSector_of_written sector, ReadProgress.reported]

/-- A report leaves what the record of a READ has beside fail_at (R117). -/
theorem ReadProgress.delivery_reported (r : ReadProgress) (count : Nat) (report : ReadReport) :
    (r.reported count report).sectorsDone = r.sectorsDone ∧ (r.reported count report).blankMet = r.blankMet ∧
      (r.reported count report).genStart = r.genStart := by
  cases report <;> exact ⟨rfl, rfl, rfl⟩

/-! ### The end of a CHECK's sector read (R119, R120) -/

theorem exec_checkSectorReadEnd {s : State} {p : Port} {i : Index} {start count n : Nat} {removed : Bool}
    (flight : s.inFlight =
      some (.segment { port := p, cmd := .check i start count, removed := removed, work := .readSector n })) :
    exec .checkSectorReadEnd s =
      .next (s.checkEnd { port := p, cmd := .check i start count, removed := removed, work := .readSector n } count
        (readSector s.array n)).settle := by
  simp only [exec, execCheckSectorReadEnd, flight]

/-- What a CHECK counts, by the sector it read (R119). -/
theorem CheckProgress.counted_readSector (c : CheckProgress) (m : Memory) (n : Nat) :
    c.counted (readSector m n) =
      match Memory.get m n with
      | some (.written _ _) => { c with sectorsDone := c.sectorsDone + 1 }
      | none => { c with sectorsDone := c.sectorsDone + 1, blankMet := c.blankMet + 1 }
      | some .damaged =>
        { c with sectorsDone := c.sectorsDone + 1, damagedMet := c.damagedMet + 1,
                 firstDamaged := match c.firstDamaged with
                   | some k => some k
                   | none => some (c.nextSector - 1) } := by
  cases sector : Memory.get m n with
  | none => rw [readSector_of_blank sector]; rfl
  | some content =>
    cases content with
    | damaged =>
      rw [readSector_of_damaged sector, CheckProgress.counted]
      cases c.firstDamaged <;> rfl
    | written content check => rw [readSector_of_written sector]; rfl

/-- The end of a sector read of a CHECK that is still in its queue: the report counts (R119, R120). -/
theorem State.checkEnd_of_active {s : State} {g : Segment} {e : Entry} {a : Active} {c c1 : CheckProgress}
    (owned : g.removed = false) (active : (s.port g.port).activeEntry = some (e, a)) (progress : a.progress = .check c)
    {report : ReadReport} (counted : c.counted report = c1) (count : Nat) {t : State}
    (after : s.landed.withProgress g.port e a (.check c1) (s.port g.port).transfers = t) :
    s.checkEnd g count report =
      if a.abortPending then t.finish g.port .aborted
      else if c1.sectorsDone = count then t.finish g.port .ok
      else t := by
  have stepped := (State.updPort_setProgress (s := s.landed) active (.check c1)).trans after
  simp only [State.checkEnd, owned, active, progress, Bool.false_eq_true, if_false, counted, stepped]

theorem State.finish_check (s : State) (p : Port) {e : Entry} (a : Active) {i : Index} {start count : Nat}
    (cmd : e.cmd = .check i start count) (c : CheckProgress) (bufs : List Buffer) (st : Status) :
    (s.withProgress p e a (.check c) bufs).finish p st =
      (s.withProgress p e a (.check c) bufs).endedWith p
        { Completion.bare e.tag 2 st with
          partition := some i, sectorsDone := some c.sectorsDone, blankMet := some c.blankMet,
          damagedMet := some c.damagedMet, firstDamaged := c.firstDamaged } :=
  (s.finish_withProgress p e a (.check c) bufs st).trans
    (congrArg _ (State.endRecord_check _ (e := { e with active := some { a with progress := .check c } }) cmd c st))

/-- Settles O51: the report goes to the READ or the CHECK that is in its queue, and a removed one only loses its
buffer. -/
theorem sectorReadsAreReported : Obligations.SectorReadsAreReported := by
  intro s p i start count n
  refine ⟨?read, ?abortedRead, ?removedRead, ?removedCheck, ?check⟩
  case read =>
    intro e a r older b flight active cmd progress kept transfers inArray others ended ended_eq
    have made : ∀ r1 bufs, ended r1 bufs = s.landed.withProgress p e a (.read r1) bufs := ended_eq
    have ends : ∀ report bufs, readSector s.array n = report → report.intoBuffers (older ++ [b]) = bufs →
        exec .readSectorReadEnd s = .next ((ended (r.reported count report) bufs).completeRead p).settle := by
      rintro report bufs rfl rfl
      rw [exec_readSectorReadEnd flight, State.readEnd_of_active rfl active progress count _ rfl, kept,
        if_neg Bool.false_ne_true, made, transfers]
    have stays : ∀ r1 bufs, bufs ≠ [] → (ended r1 bufs).completeRead p = ended r1 bufs := by
      intro r1 bufs left
      rw [made, State.completeRead_withProgress_of_buffers left]
    refine ⟨fun data check sector => ?_, fun blank => ?_, ?_⟩
    · rw [ends _ _ (readSector_of_written sector) (map_deliver_append others inArray data false), stays _ _ (by simp)]
      rfl
    · rw [ends _ _ (readSector_of_blank blank) (map_deliver_append others inArray _ true), stays]
      · rfl
      · exact List.append_ne_nil_of_right_ne_nil _ (List.cons_ne_nil _ _)
    · rintro damaged r1 rfl
      have freed := ends _ _ (readSector_of_damaged damaged) (filter_inArray_append others inArray)
      refine ⟨fun left => ?_, fun empty => ?_⟩
      · rw [freed, stays _ _ left]
        rfl
      · rw [freed, empty, made, made]
        have active' := s.landed.activeEntry_withProgress p e a (.read (r.reported count .unreadable)) []
        rw [State.completeRead_of_done active' cmd rfl rfl rfl (State.transfers_withProgress _ _ _ _ _ _)]
        rfl
  case abortedRead =>
    intro e a r flight active cmd progress pending
    obtain ⟨done, met, gen⟩ := r.delivery_reported count (readSector s.array n)
    rw [exec_readSectorReadEnd flight, State.readEnd_of_active rfl active progress count _ rfl, if_pos pending,
      State.finish_withProgress, State.endedWith_withProgress rfl,
      State.endRecord_read _ (e := { e with active := some _ }) cmd, done, met, gen, r.failAt_reported]
    rfl
  case removedRead =>
    intro flight
    rw [exec_readSectorReadEnd flight]
    rfl
  case removedCheck =>
    intro flight
    rw [exec_checkSectorReadEnd flight]
    rfl
  case check =>
    intro e a c c1 flight active cmd progress counted s1 s1_eq st outcome
    replace counted : c.counted (readSector s.array n) = c1 := (c.counted_readSector s.array n).trans counted.symm
    have after : s.landed.withProgress p e a (.check c1) (s.port p).transfers = s1 := s1_eq.symm
    have ended := s.landed.finish_check p a cmd c1 (s.port p).transfers
    rw [after] at ended
    rw [exec_checkSectorReadEnd flight, State.checkEnd_of_active rfl active progress counted count after]
    obtain ⟨pending, rfl⟩ | ⟨free, last, rfl⟩ | ⟨free, more, rfl⟩ := outcome
    · rw [if_pos pending, ended]
    · rw [free, if_neg Bool.false_ne_true, if_pos last, ended]
    · rw [free, if_neg Bool.false_ne_true, if_neg more]

end Sys2Proof.Machine

namespace Sys2Proof.Machine

/-! ### What a grant does at its port (R92, R93, R109, R119, R124, R130, R134) -/

/-- The transfer list after a grant: a READ has taken a buffer, a WRITE's oldest buffer is IN_ARRAY. -/
def Progress.grantedBuffers : Progress → List Buffer → List Buffer
  | .read r, bufs => bufs ++ [{ state := .inArray, data := [], sector := some r.nextSector, blankMark := false }]
  | .write _, b :: rest => { b with state := .inArray } :: rest
  | _, bufs => bufs

/-- A grant changes the ACTIVE entry's progress and the port's buffers, and nothing else of the port. -/
theorem PortUnit.mount_of_active {u : PortUnit} {e : Entry} {a : Active} (active : u.activeEntry = some (e, a)) :
    u.mount a.progress =
      { u with
        queue := { e with active := some { a with progress := a.progress.granted } } :: u.queue.tail,
        transfers := a.progress.grantedBuffers u.transfers } := by
  cases progress : a.progress with
  | read r => exact PortUnit.setProgress_of_active (u := u.takeBuffer _) active _
  | write k =>
    have kept : { e with active := some { a with progress := .write k } } :: u.queue.tail = u.queue := by
      rw [← progress]
      exact (PortUnit.queue_eq_of_active active).symm
    rw [Progress.granted, kept, PortUnit.mount]
    cases transfers : u.transfers with
    | nil => simp [Progress.grantedBuffers, ← transfers]
    | cons b rest => rfl
  | _ => exact PortUnit.setProgress_of_active active _

/-- The segment of a command whose condition holds goes in flight (R69, R72). -/
theorem exec_segmentGrant_of_workDue {s : State} {p : Port} {e : Entry} {a : Active} {w : Work}
    (may : s.mayGrant = true) (grantee : s.grantee = some p) (active : (s.port p).activeEntry = some (e, a))
    (due : s.WorkDue p e a w) (inside : w.inArray = true) : exec .segmentGrant s = .next (s.grant p e a w) := by
  obtain ⟨idle, -, -⟩ := s.mayGrant_iff.mp may
  exact exec_segmentGrant_of_grantee may grantee
    (State.nextWork_iff.mpr ⟨active, State.ownSegment_of_landed idle p, due⟩) inside

/-! ### The new table of a table segment (R25) -/

section

variable {s : State} {i : Index} {x : Partition}

theorem State.composed_setKey (record : s.live.records[i] = some x) (key : Key) (mode : KeyMode) :
    s.composed (.setKey i key mode) =
      { s.live with
        generation := s.live.generation + 1,
        records := s.live.records.set i (some { x with lock := some { key := key, mode := mode } }) } := by
  simp only [State.composed, record]
  rfl

theorem State.composed_clearKey (record : s.live.records[i] = some x) (key : Key) :
    s.composed (.clearKey i key) =
      { s.live with
        generation := s.live.generation + 1, records := s.live.records.set i (some { x with lock := none }) } := by
  simp only [State.composed, record]
  rfl

theorem State.composed_wipe (record : s.live.records[i] = some x) (which : Which) (key : Key) :
    s.composed (.wipe i which key) =
      { s.live with
        generation := s.live.generation + 1, records := s.live.records.set i (some { x with lock := none }) } :=
  State.composed_clearKey record key

theorem State.composed_commit {h : Port} {staged : Table} {lease : Nat}
    (committing : s.tableState = .committing h staged lease) :
    s.composed .commit = { s.live with generation := s.live.generation + 1, records := staged.records } := by
  simp only [State.composed, committing]

end

/-! ### The refusal of a table segment at the last generation (R27, R28) -/

/-- A refused table segment ends its command COMMIT_FAULT and gives up its table state; the standby timer stops (R11,
R54). -/
theorem State.grant_of_refused {s : State} {p : Port} {e : Entry} {a : Active}
    (last : s.live.generation = 0xFFFFFFFF) (active : (s.port p).activeEntry = some (e, a))
    (holds : e.cmd.holdsTable = true) (keeps : e.cmd.keeps a.progress = true) (new : Table) :
    s.grant p e a (.tableBlank new) =
      { (s.endedWith p (tableRecord e a.progress .commitFault s.live.generation)) with
        lastGranted := p, standbyTimer := none, tableState := s.tableStateWithout e.cmd }.settle := by
  have refuses : s.refusesTable (.tableBlank new) = true := decide_eq_true last
  rw [State.grant, refuses, if_pos rfl,
    State.tableFault_of_active (s := { s with lastGranted := p, standbyTimer := none }) active holds keeps
      (State.leaveTableState_eq _ _)]
  rfl

/-- Settles O50: the conditions of R69 give the work, `mount_of_active` what its grant leaves at the port, and
`grant_of_refused` the end of a refused one. -/
theorem grantsPutTheSegmentInFlight : Obligations.GrantsPutTheSegmentInFlight := by
  intro s q e a idle part power grantee active granted granted_eq
  have may : s.mayGrant = true := s.mayGrant_iff.mpr ⟨idle, part, power⟩
  have grants : ∀ {w}, s.WorkDue q e a w → w.inArray = true → s.refusesTable w = false →
      exec .segmentGrant s =
        .next (granted w a.progress.granted (a.progress.grantedBuffers (s.port q).transfers)) := by
    intro w due inside admits
    rw [exec_segmentGrant_of_workDue may grantee active due inside, State.grant_of_not_refused q e a admits,
      granted_eq, State.updPort]
    exact congrArg (fun u => Host.Outcome.next (State.setPort _ q u).settle) (PortUnit.mount_of_active active)
  refine ⟨fun i x record => ⟨?read, ?check, ?write, ?blank, ?wipe, fun spare => ⟨?wiped, ?setKey, ?clearKey⟩⟩,
    fun spare progress => ⟨?setRecovery, ?commit⟩, fun last refused refused_eq => ?refused⟩
  case read =>
    intro n m r cmd progress reading take inside
    rw [grants (.inl ⟨i, x, record, .inl ⟨n, m, r, cmd, progress, reading, take, rfl⟩⟩) (decide_eq_true inside) rfl,
      progress]
    rfl
  case check =>
    intro n m c cmd progress more inside
    rw [grants (.inl ⟨i, x, record, .inr (.inl ⟨n, m, c, cmd, progress, more, rfl⟩)⟩) (decide_eq_true inside) rfl,
      progress]
    rfl
  case write =>
    intro n m k b rest cmd progress more transfers full inside
    rw [grants (.inl ⟨i, x, record, .inr (.inr (.inl ⟨n, m, k, b, rest, cmd, progress, more, transfers, full, rfl⟩))⟩)
      (decide_eq_true inside) rfl, progress, transfers]
    rfl
  case blank =>
    intro n m k cmd progress more inside
    rw [grants (.inl ⟨i, x, record, .inr (.inr (.inr (.inl ⟨n, m, k, cmd, progress, more, rfl⟩)))⟩)
      (decide_eq_true inside) rfl, progress]
    rfl
  case wipe =>
    intro which key k cmd progress more undue inside
    rw [grants (.inl ⟨i, x, record, .inr (.inr (.inr (.inr ⟨which, key, k, cmd, progress, .inl ⟨more, rfl⟩⟩)))⟩)
      (decide_eq_true inside) rfl, progress, Progress.granted, undue, if_neg Bool.false_ne_true]
    rfl
  case wiped =>
    intro which key k cmd progress done due
    rw [grants (.inl ⟨i, x, record, .inr (.inr (.inr (.inr ⟨which, key, k, cmd, progress, .inr ⟨done, due, rfl⟩⟩)))⟩)
      rfl (decide_eq_false spare), progress, Progress.granted, due, if_pos rfl, cmd, State.composed_wipe record]
    rfl
  case setKey =>
    intro key mode cmd progress
    rw [grants (.inr ⟨progress, rfl, .inr (.inl ⟨i, key, mode, cmd⟩)⟩) rfl (decide_eq_false spare), progress, cmd,
      State.composed_setKey record]
    rfl
  case clearKey =>
    intro key cmd progress
    rw [grants (.inr ⟨progress, rfl, .inr (.inr (.inl ⟨i, key, cmd⟩))⟩) rfl (decide_eq_false spare), progress, cmd,
      State.composed_clearKey record]
    rfl
  case setRecovery =>
    intro new old cmd
    rw [grants (.inr ⟨progress, rfl, .inr (.inr (.inr ⟨new, old, cmd⟩))⟩) rfl (decide_eq_false spare), progress, cmd]
    rfl
  case commit =>
    intro h staged lease cmd committing
    rw [grants (.inr ⟨progress, rfl, .inl cmd⟩) rfl (decide_eq_false spare), progress, cmd,
      State.composed_commit committing]
    rfl
  case refused =>
    have ends : ∀ {c pr new}, e.cmd = c → a.progress = pr → s.WorkDue q e a (.tableBlank new) → c.keeps pr = true →
        exec .segmentGrant s =
          .next (refused (tableRecord { e with cmd := c } pr .commitFault s.live.generation)
            (s.tableStateWithout c)) := by
      rintro c pr new rfl rfl due keeps
      have holds := QueuedCommand.holdsTable_of_does (State.does_of_workOf (State.workOf_of_workDue due)) rfl
      rw [exec_segmentGrant_of_workDue may grantee active due rfl, State.grant_of_refused last active holds keeps,
        refused_eq]
    refine ⟨fun h staged lease cmd progress committing => ?_, fun i key mode cmd progress => ?_,
      fun i key cmd progress => ?_, fun new old cmd progress => ?_,
      fun i x which key k cmd record progress done due => ?_⟩
    · have leaves : s.tableStateWithout .commit = .claimed h staged lease 0 :=
        congrArg State.tableState ((s.leaveTableState_eq .commit).symm.trans
          (State.leaveTableState_commit_of_committing committing))
      rw [← leaves]
      exact ends cmd progress (.inr ⟨progress, rfl, .inl cmd⟩) rfl
    · exact ends cmd progress (.inr ⟨progress, rfl, .inr (.inl ⟨i, key, mode, cmd⟩)⟩) rfl
    · exact ends cmd progress (.inr ⟨progress, rfl, .inr (.inr (.inl ⟨i, key, cmd⟩))⟩) rfl
    · exact ends cmd progress (.inr ⟨progress, rfl, .inr (.inr (.inr ⟨new, old, cmd⟩))⟩) rfl
    · exact ends cmd progress (.inl ⟨i, x, record, .inr (.inr (.inr (.inr
        ⟨which, key, k, cmd, progress, .inr ⟨done, due, rfl⟩⟩)))⟩) rfl

end Sys2Proof.Machine

namespace Sys2Proof.Machine

/-! ### The comparison of a table job (R133, R143, R151, R154) -/

/-- What the last check of a table job answers, `none` when it passes: NOT_KEYED where there is no key to clear, else
the outcome of a key comparison if one is made (R143). -/
structure State.Comparison (s : State) (p : Port) (notKeyed compared matched : Prop) (c : Option Status) : Prop where
  noKey : notKeyed → c = some .notKeyed
  spent : compared → (s.port p).budget = 0 → c = some .budgetSpent
  mismatch : compared → (s.port p).budget ≠ 0 → ¬ matched → c = some .keyMismatch
  pass : ¬ notKeyed → (compared → (s.port p).budget ≠ 0 ∧ matched) → c = none

section

variable {s : State} {p : Port} {notKeyed compared matched : Prop}

theorem State.comparison_none (keyed : ¬ notKeyed) (free : ¬ compared) :
    s.Comparison p notKeyed compared matched none where
  noKey no := absurd no keyed
  spent is := absurd is free
  mismatch is := absurd is free
  pass _ _ := rfl

theorem State.comparison_notKeyed (no : notKeyed) (free : ¬ compared) :
    s.Comparison p notKeyed compared matched (some .notKeyed) where
  noKey _ := rfl
  spent is := absurd is free
  mismatch is := absurd is free
  pass keyed := absurd no keyed

theorem State.comparison_compareKey (keyed : ¬ notKeyed) (is : compared) {b : Bool} (matches_iff : matched ↔ b = true) :
    s.Comparison p notKeyed compared matched (s.compareKey p b) where
  noKey no := absurd no keyed
  spent _ zero := by
    rw [State.compareKey, zero]
    rfl
  mismatch _ left unequal := by
    rw [State.compareKey, decide_eq_true left, Bool.eq_false_iff.mpr (mt matches_iff.mpr unequal)]
    rfl
  pass _ passes := by
    obtain ⟨left, equal⟩ := passes is
    rw [State.compareKey, decide_eq_true left, matches_iff.mp equal]
    rfl

end

/-! ### The checks of a table job past its access (R41, R133, R149, R151, R154) -/

/-- The hold, the table state and the comparison, the first that fails deciding. -/
def State.jobOutcome (s : State) (c : Option Status) (pr : Progress) : StartOutcome :=
  orRuns (firstFailing (require (!s.held) .holdActive) (firstFailing s.jobTest c)) pr

section

variable {s : State} {c : Option Status} {pr : Progress}

theorem State.jobOutcome_of_held (held : s.held = true) : s.jobOutcome c pr = .ends .holdActive := by
  rw [State.jobOutcome, held]
  rfl

variable (clear : s.held = false)

include clear

theorem State.jobOutcome_of_jobTest {st : Status} (fails : s.jobTest = some st) :
    s.jobOutcome c pr = .ends st := by
  rw [State.jobOutcome, clear, fails]
  rfl

theorem State.jobOutcome_of_free (free : s.tableState = .free) : s.jobOutcome c pr = orRuns c pr := by
  rw [State.jobOutcome, clear, State.jobTest, free]
  rfl

end

/-- The command is a table job whose start meets, its access granted, the hold, the table state and the comparison. -/
structure State.StartsTableJob (s : State) (p : Port) (cmd : QueuedCommand) (pr : Progress)
    (notKeyed compared matched : Prop) : Prop where
  job : cmd ≠ .commit
  holds : cmd.holdsTable = true
  outcome : ∃ c, s.startOutcome p cmd = s.jobOutcome c pr ∧ s.Comparison p notKeyed compared matched c

section

variable {s : State} {p : Port} {i : Index} {x : Partition} {notKeyed compared matched : Prop}

section

variable (record : s.live.records[i] = some x) (writes : x.writer = some p)

include record writes

/-- WIPE compares on a keyed partition (R133). -/
theorem State.startsTableJob_wipe {which : Which} {key : Key} (keyed : ¬ notKeyed)
    (compared_iff : compared ↔ x.lock ≠ none)
    (matched_iff : matched ↔ (which = .partition ∧ x.lock.map KeyLock.key = some key) ∨
      (which = .recovery ∧ s.live.recovery = some key)) :
    s.StartsTableJob p (.wipe i which key) (.wipe { nextBlock := 0, blocksDone := 0, tableDue := false }) notKeyed
      compared matched := by
  have defined : s.record i = some x := record
  have written : x.writtenBy p = true := (x.writtenBy_iff p).mpr writes
  refine ⟨by simp, rfl, ?_⟩
  simp only [State.startOutcome, State.startWipe, defined, written]
  cases lock : x.lock with
  | none => exact ⟨none, rfl, State.comparison_none keyed (by simp [compared_iff, lock])⟩
  | some l =>
    have whichMatches_iff : matched ↔ s.whichMatches l which key = true := by
      cases which <;> simp [matched_iff, lock, State.whichMatches, @eq_comm _ key]
    exact ⟨_, rfl, State.comparison_compareKey keyed (by simp [compared_iff, lock]) whichMatches_iff⟩

/-- SET KEY on a partition that is open to the port compares nothing (R149). -/
theorem State.startsTableJob_setKey (key : Key) (mode : KeyMode) (opened : x.lock = none ∨ (s.openSets[i]).get p = true)
    (keyed : ¬ notKeyed) (free : ¬ compared) :
    s.StartsTableJob p (.setKey i key mode) (.job true) notKeyed compared matched := by
  have defined : s.record i = some x := record
  have written : x.writtenBy p = true := (x.writtenBy_iff p).mpr writes
  have unlocked : s.unlocked p i x = true := (s.unlocked_iff p i x).mpr opened
  refine ⟨by simp, rfl, none, ?_, State.comparison_none keyed free⟩
  simp only [State.startOutcome, State.startSetKey, defined, written, unlocked, State.jobOutcome]
  cases s.jobTest <;> rfl

/-- CLEAR KEY compares on a keyed partition and is NOT_KEYED on another (R151). -/
theorem State.startsTableJob_clearKey {key : Key} (notKeyed_iff : notKeyed ↔ x.lock = none)
    (compared_iff : compared ↔ x.lock ≠ none)
    (matched_iff : matched ↔ x.lock.map KeyLock.key = some key ∨
      (x.lock.map KeyLock.mode = some .standard ∧ s.live.recovery = some key)) :
    s.StartsTableJob p (.clearKey i key) (.job true) notKeyed compared matched := by
  have defined : s.record i = some x := record
  have written : x.writtenBy p = true := (x.writtenBy_iff p).mpr writes
  refine ⟨by simp, rfl, ?_⟩
  simp only [State.startOutcome, State.startClearKey, defined, written]
  cases lock : x.lock with
  | none => exact ⟨_, rfl, State.comparison_notKeyed (notKeyed_iff.mpr lock) (by simp [compared_iff, lock])⟩
  | some l =>
    have clearMatches_iff : matched ↔ s.clearMatches l key = true := by
      simp [matched_iff, lock, State.clearMatches, @eq_comm _ key]
    exact ⟨_, rfl, State.comparison_compareKey (by simp [notKeyed_iff, lock]) (by simp [compared_iff, lock])
      clearMatches_iff⟩

end

/-- SET RECOVERY compares when a recovery key is set (R154). -/
theorem State.startsTableJob_setRecovery (new : Key) {old : Option Key} (keyed : ¬ notKeyed)
    (compared_iff : compared ↔ s.live.recovery ≠ none) (matched_iff : matched ↔ s.live.recovery = old) :
    s.StartsTableJob p (.setRecovery new old) (.job true) notKeyed compared matched := by
  refine ⟨by simp, rfl, ?_⟩
  simp only [State.startOutcome, State.startSetRecovery]
  cases recovery : s.live.recovery with
  | none => exact ⟨none, rfl, State.comparison_none keyed (by simp [compared_iff, recovery])⟩
  | some k =>
    have old_iff : matched ↔ decide (old = some k) = true := by simp [matched_iff, recovery, eq_comm]
    exact ⟨_, rfl, State.comparison_compareKey keyed (by simp [compared_iff, recovery]) old_iff⟩

end

/-! ### What the start of a table job does -/

theorem State.startRecord_of_not_commit {s : State} {e : Entry} (other : e.cmd ≠ .commit) (st : Status) :
    s.startRecord e st = startRecordOf e.tag e.cmd.code st e.cmd.part := by
  unfold State.startRecord
  cases cmd : e.cmd with
  | commit => exact absurd cmd other
  | _ => rfl

/-- A table job that becomes ACTIVE makes the table state UPDATING (R41). -/
theorem State.enterTableState_of_job {cmd : QueuedCommand} (holds : cmd.holdsTable = true) (job : cmd ≠ .commit)
    (s : State) (p : Port) : s.enterTableState p cmd = { s with tableState := .updating p } := by
  cases cmd with
  | commit => exact absurd rfl job
  | wipe _ _ _ | setKey _ _ _ | clearKey _ _ | setRecovery _ _ => rfl
  | _ => cases holds

/-- A start that ends on a failed comparison lowers the budget by one beside its record (R143). -/
theorem exec_commandStart_of_keyMismatch {s ended : State} {p : Port} {e : Entry} {rest : List Entry}
    (ready : s.startReady p e rest) (ends : s.startOutcome p e.cmd = .ends .keyMismatch)
    (ended_eq : ended = s.startEnded p rest (s.startRecord e .keyMismatch)) :
    exec (.commandStart p) s =
      .next (ended.setPort p { ended.port p with budget := (s.port p).budget - 1 }).settle := by
  have may := State.mayStart_of_startReady ready
  obtain ⟨-, queue, -⟩ := ready
  show Host.Outcome.next (s.commandStart p) = _
  simp only [ended_eq, State.startEnded, State.port_setPort_same, State.setPort_setPort]
  simp only [State.commandStart, may, if_true, queue, ends, State.endAtStart, State.updPort, PortUnit.spend,
    List.tail_cons, State.openIfMatched_of_not_ok (st := .keyMismatch) (by simp)]
  rfl

/-- Settles O47: each of the four commands starts with `State.jobOutcome`, whose checks are taken in order. -/
theorem tableJobsStartInOrder : Obligations.TableJobsStartInOrder := by
  intro s p e rest code i pr compared matched notKeyed ready commands ends ends_eq
  have start : e.cmd.code = code ∧ e.cmd.part = i ∧ s.StartsTableJob p e.cmd pr notKeyed compared matched := by
    obtain ⟨j, which, key, x, cmd, record, writes, rfl, rfl, rfl, keyed, compares, matching⟩ |
      ⟨j, key, mode, x, cmd, record, writes, opened, rfl, rfl, rfl, keyed, free⟩ |
      ⟨j, key, x, cmd, record, writes, rfl, rfl, rfl, keyed, compares, matching⟩ |
      ⟨new, old, cmd, rfl, rfl, rfl, keyed, compares, matching⟩ := commands
    all_goals rw [cmd]
    · exact ⟨rfl, rfl, State.startsTableJob_wipe record writes keyed compares matching⟩
    · exact ⟨rfl, rfl, State.startsTableJob_setKey record writes key mode opened keyed free⟩
    · exact ⟨rfl, rfl, State.startsTableJob_clearKey record writes keyed compares matching⟩
    · exact ⟨rfl, rfl, State.startsTableJob_setRecovery new keyed compares matching⟩
  obtain ⟨rfl, rfl, job, holds, c, outcome, comparison⟩ := start
  have ended : ∀ st, ends st = s.startEnded p rest (s.startRecord e st) := fun st => by
    rw [ends_eq, State.startRecord_of_not_commit job]
  have fails : ∀ {st}, s.jobOutcome c pr = .ends st → st ≠ .ok → st ≠ .keyMismatch →
      exec (.commandStart p) s = .next (ends st).settle := fun {st} failing notOk spared => by
    rw [exec_commandStart_of_ends ready (outcome.trans failing) spared, State.openIfMatched_of_not_ok notOk, ended]
  refine ⟨fun held => ?hold, fun clear =>
    ⟨fun h staged lease t claimed => ?claimed, fun busy => ?tableBusy, fun free => ?free⟩⟩
  case hold => exact fails (State.jobOutcome_of_held held) (by simp) (by simp)
  case claimed =>
    have test : s.jobTest = some .claimed := by rw [State.jobTest, claimed]
    exact fails (State.jobOutcome_of_jobTest clear test) (by simp) (by simp)
  case tableBusy =>
    have test : s.jobTest = some .tableBusy := by
      obtain ⟨h, staged, lease, committing⟩ | ⟨j, updating⟩ := busy
      · rw [State.jobTest, committing]
      · rw [State.jobTest, updating]
    exact fails (State.jobOutcome_of_jobTest clear test) (by simp) (by simp)
  case free =>
    have decides : s.jobOutcome c pr = orRuns c pr := State.jobOutcome_of_free clear free
    refine ⟨fun no => ?notKeyed, fun is zero => ?budgetSpent, fun is left unequal => ?keyMismatch,
      fun keyed passes => ?runs⟩
    case notKeyed =>
      rw [comparison.noKey no] at decides fails
      exact fails decides (by simp) (by simp)
    case budgetSpent =>
      rw [comparison.spent is zero] at decides fails
      exact fails decides (by simp) (by simp)
    case keyMismatch =>
      rw [comparison.mismatch is left unequal] at decides outcome
      exact exec_commandStart_of_keyMismatch ready (outcome.trans decides) (ended _)
    case runs =>
      rw [comparison.pass keyed passes] at decides outcome
      rw [exec_commandStart_of_runs ready (outcome.trans decides), State.enterTableState_of_job holds job]

end Sys2Proof.Machine

namespace Sys2Proof.Machine

/-! ### What leaves the open sets as they are (R145) -/

@[simp] theorem State.openSets_claim (s : State) (p : Port) : (s.claim p).openSets = s.openSets := by
  unfold State.claim
  dsimp only
  repeat' split
  all_goals rfl

@[simp] theorem State.openSets_discard (s : State) (p : Port) : (s.discard p).openSets = s.openSets := by
  unfold State.discard
  repeat' split
  all_goals rfl

@[simp] theorem State.openSets_edit (s : State) (p : Port) (f : Table → Nat ⊕ Table) :
    (s.edit p f).openSets = s.openSets := by
  unfold State.edit
  repeat' split
  all_goals rfl

@[simp] theorem State.openSets_takeHold (s : State) (p : Port) : (s.takeHold p).openSets = s.openSets := by
  unfold State.takeHold
  repeat' split
  all_goals rfl

@[simp] theorem State.openSets_leaveTableState (s : State) (cmd : QueuedCommand) :
    (s.leaveTableState cmd).openSets = s.openSets := by
  unfold State.leaveTableState
  repeat' split
  all_goals rfl

@[simp] theorem State.openSets_enterTableState (s : State) (p : Port) (cmd : QueuedCommand) :
    (s.enterTableState p cmd).openSets = s.openSets := by
  unfold State.enterTableState
  repeat' split
  all_goals rfl

@[simp] theorem State.openSets_abort (s : State) (p : Port) : (s.abort p).openSets = s.openSets := by
  unfold State.abort State.abortActive
  repeat' split
  all_goals simp

@[simp] theorem State.openSets_watch (s : State) (p : Port) : (s.watch p).openSets = s.openSets := by
  unfold State.watch
  repeat' split
  all_goals rfl

@[simp] theorem State.openSets_info (s : State) (p : Port) : (s.info p).openSets = s.openSets := by
  unfold State.info
  dsimp only
  repeat' split
  all_goals rfl

@[simp] theorem State.openSets_intervalChanged (s : State) (old : Nat) :
    (s.intervalChanged old).openSets = s.openSets := by
  unfold State.intervalChanged
  split <;> rfl

@[simp] theorem State.openSets_setup (s : State) (p : Port) : (s.setup p).openSets = s.openSets := by
  unfold State.setup
  dsimp only
  repeat' split
  all_goals simp

@[simp] theorem State.openSets_refuseData (s : State) (p : Port) : (s.refuseData p).openSets = s.openSets := rfl

@[simp] theorem State.openSets_output (s : State) (p : Port) (w : Word) : (s.output p w).openSets = s.openSets := rfl

@[simp] theorem State.openSets_emptyRead (s : State) (p : Port) : (s.emptyRead p).openSets = s.openSets := rfl

@[simp] theorem State.openSets_completeRead (s : State) (p : Port) : (s.completeRead p).openSets = s.openSets := by
  unfold State.completeRead
  repeat' split
  all_goals simp

@[simp] theorem State.openSets_dataWrite (s : State) (p : Port) (w : Word) :
    (s.dataWrite p w).openSets = s.openSets := by
  unfold State.dataWrite
  repeat' split
  all_goals simp

@[simp] theorem State.openSets_dataRead (s : State) (p : Port) : (s.dataRead p).openSets = s.openSets := by
  unfold State.dataRead
  repeat' split
  all_goals simp

@[simp] theorem State.openSets_paramWrite (s : State) (p : Port) (loc : Nat) (w : Word) :
    (s.paramWrite p loc w).openSets = s.openSets := by
  unfold State.paramWrite
  split <;> rfl

@[simp] theorem State.openSets_standbyExpiry (s : State) : s.standbyExpiry.openSets = s.openSets := by
  unfold State.standbyExpiry
  split <;> simp

@[simp] theorem State.openSets_wakeEnd (s : State) : s.wakeEnd.openSets = s.openSets := by
  unfold State.wakeEnd
  split <;> simp

@[simp] theorem State.openSets_leaseExpiry (s : State) : s.leaseExpiry.openSets = s.openSets := by
  unfold State.leaseExpiry State.loseClaim
  repeat' split
  all_goals rfl

@[simp] theorem State.openSets_stallExpiry (s : State) (p : Port) : (s.stallExpiry p).openSets = s.openSets := by
  unfold State.stallExpiry
  split <;> simp

@[simp] theorem State.openSets_tableFault (s : State) (p : Port) (cmd : QueuedCommand) (removed : Bool) :
    (s.tableFault p cmd removed).openSets = s.openSets := by
  obtain ⟨-, -, -, same, -⟩ := s.tableFault_frame p cmd removed
  exact same

@[simp] theorem State.openSets_grant (s : State) (p : Port) (e : Entry) (a : Active) (w : Work) :
    (s.grant p e a w).openSets = s.openSets := by
  unfold State.grant
  split <;> simp

@[simp] theorem State.openSets_landed (s : State) : s.landed.openSets = s.openSets := rfl

@[simp] theorem State.openSets_readEnd (s : State) (g : Segment) (count : Nat) (report : ReadReport) :
    (s.readEnd g count report).openSets = s.openSets := by
  unfold State.readEnd
  dsimp only [State.endRemoved]
  repeat' split
  all_goals simp

@[simp] theorem State.openSets_checkEnd (s : State) (g : Segment) (count : Nat) (report : ReadReport) :
    (s.checkEnd g count report).openSets = s.openSets := by
  unfold State.checkEnd
  dsimp only
  repeat' split
  all_goals simp

@[simp] theorem State.openSets_programmed (s : State) (i : Index) (p : Port) (n : Nat) (data : List Byte) (ok : Bool) :
    (s.programmed i p n data ok).openSets = s.openSets := by
  unfold State.programmed
  dsimp only
  split <;> rfl

@[simp] theorem State.openSets_writeReport (s : State) (p : Port) (count : Nat) (w : WriteProgress)
    (abortPending : Bool) (report : ProgramReport) :
    (s.writeReport p count w abortPending report).openSets = s.openSets := by
  unfold State.writeReport
  dsimp only
  repeat' split
  all_goals simp

@[simp] theorem State.openSets_writeEnd (s : State) (g : Segment) (i : Index) (count n : Nat) (data : List Byte)
    (ok : Bool) : (s.writeEnd g i count n data ok).openSets = s.openSets := by
  unfold State.writeEnd
  dsimp only [State.endRemoved]
  repeat' split
  all_goals simp

@[simp] theorem State.openSets_blanked (s : State) (i : Index) (p : Port) (b : Nat) :
    (s.blanked i p b).openSets = s.openSets := rfl

@[simp] theorem State.openSets_blankEnd (s : State) (g : Segment) (i : Index) (count b : Nat) :
    (s.blankEnd g i count b).openSets = s.openSets := by
  unfold State.blankEnd
  dsimp only
  repeat' split
  all_goals simp

@[simp] theorem State.openSets_wipeBlockEnd (s : State) (g : Segment) (i : Index) (b : Nat) :
    (s.wipeBlockEnd g i b).openSets = s.openSets := by
  unfold State.wipeBlockEnd
  dsimp only
  repeat' split
  all_goals simp

/-- Of the accesses of a window CLOSE alone touches an open set (R148). -/
theorem State.WindowEffect.openSets {s t : State} {p : Port} (h : s.WindowEffect p t) :
    t.openSets = s.openSets ∨ t = s.close p := by
  cases h with
  | close => exact .inr rfl
  | claim => exact .inl (s.openSets_claim p)
  | discard => exact .inl (s.openSets_discard p)
  | define => exact .inl (s.openSets_edit p _)
  | delete => exact .inl (s.openSets_edit p _)
  | resize => exact .inl (s.openSets_edit p _)
  | modify => exact .inl (s.openSets_edit p _)
  | hold => exact .inl (s.openSets_takeHold p)
  | abort => exact .inl (s.openSets_abort p)
  | watch => exact .inl (s.openSets_watch p)
  | info => exact .inl (s.openSets_info p)
  | setup => exact .inl (s.openSets_setup p)
  | dataWrite w => exact .inl (s.openSets_dataWrite p w)
  | dataRead => exact .inl (s.openSets_dataRead p)
  | paramWrite loc w => exact .inl (s.openSets_paramWrite p loc w)
  | _ => exact .inl rfl

/-! ### The law at one port (R145) -/

/-- The live record of an index is keyed and permits the port. -/
def State.MayBeOpen (s : State) (i : Index) (q : Port) : Prop :=
  ∃ x l, s.live.records[i] = some x ∧ x.lock = some l ∧ x.permits q = true

theorem PortSet.eq_empty_iff (o : PortSet) : o = PortSet.empty ↔ ∀ q, o.get q = false := by
  constructor
  · rintro rfl q
    exact PortSet.get_empty q
  · intro none
    obtain ⟨a, b, c⟩ := o
    cases none .a
    cases none .b
    cases none .c
    rfl

theorem PortSet.subset_iff (o : PortSet) (allowed : Port → Bool) :
    o.subset allowed = true ↔ ∀ q, o.get q = true → allowed q = true := by
  have at_port : ∀ b c : Bool, (!b || c) = true ↔ (b = true → c = true) := by decide
  simp only [PortSet.subset, Bool.and_eq_true, at_port]
  exact ⟨fun ⟨⟨a, b⟩, c⟩ q => by cases q <;> assumption, fun h => ⟨⟨h .a, h .b⟩, h .c⟩⟩

theorem State.openAt_iff (s : State) (i : Index) :
    s.openAt i = true ↔ ∀ q, (s.openSets[i]).get q = true → s.MayBeOpen i q := by
  have shut : (∀ q, ¬ s.MayBeOpen i q) →
      (s.openSets[i] = PortSet.empty ↔ ∀ q, (s.openSets[i]).get q = true → s.MayBeOpen i q) := fun none => by
    simp only [PortSet.eq_empty_iff, none, imp_false, Bool.not_eq_true]
  unfold State.openAt
  split
  · rename_i undefined
    rw [decide_eq_true_iff]
    refine shut ?_
    rintro q ⟨x, l, defined, -⟩
    cases undefined.symm.trans defined
  · rename_i x defined
    cases lock : x.lock with
    | none =>
      simp only [Option.isSome_none, Bool.false_eq_true, if_false, decide_eq_true_iff]
      refine shut ?_
      rintro q ⟨y, l, same, keyed, -⟩
      cases defined.symm.trans same
      cases lock.symm.trans keyed
    | some l =>
      simp only [Option.isSome_some, if_true, PortSet.subset_iff]
      refine forall_congr' fun q => imp_congr_right fun _ => ⟨fun permits => ⟨x, l, defined, lock, permits⟩, ?_⟩
      rintro ⟨y, -, same, -, permits⟩
      cases defined.symm.trans same
      exact permits

/-- A port is in the open set of an index only while its live record is keyed and permits the port. -/
theorem State.openLaw_iff (s : State) :
    s.openLaw = true ↔ ∀ i q, (s.openSets[i]).get q = true → s.MayBeOpen i q := by
  simp only [State.openLaw, List.all_eq_true, State.openAt_iff]
  exact ⟨fun h i => h i (mem_allIndices i), fun h i _ => h i⟩

/-! ### What keeps the law -/

/-- Under the same live table every port in an open set was in it before, or may be. -/
theorem State.openLaw_of_live {s t : State} (h : s.openLaw = true) (live : t.live = s.live)
    (opens : ∀ i q, (t.openSets[i]).get q = true → (s.openSets[i]).get q = true ∨ s.MayBeOpen i q) :
    t.openLaw = true := by
  refine t.openLaw_iff.mpr fun i q isOpen => ?_
  have may : s.MayBeOpen i q := (opens i q isOpen).elim (s.openLaw_iff.mp h i q) id
  rwa [State.MayBeOpen, live]

theorem State.openLaw_of_same {s t : State} (h : s.openLaw = true) (live : t.live = s.live)
    (openSets : t.openSets = s.openSets) : t.openLaw = true :=
  State.openLaw_of_live h live fun _ _ isOpen => .inl (openSets ▸ isOpen)

theorem State.openLaw_of_empty {s : State} (empty : s.openSets = Vector.replicate 8 PortSet.empty) :
    s.openLaw = true := by
  refine s.openLaw_iff.mpr fun i q isOpen => ?_
  simp [empty, PortSet.get_empty] at isOpen

theorem State.openLaw_settle {s : State} (h : s.openLaw = true) : s.settle.openLaw = true :=
  State.openLaw_of_same h s.live_settle s.openSets_settle

/-- A port's removal from an open set leaves the others there. -/
theorem PortSet.get_of_get_set_false {o : PortSet} {p q : Port} (h : (o.set p false).get q = true) :
    o.get q = true := by
  by_cases same : q = p
  · subst same
    rw [PerPort.get_set_same] at h
    cases h
  · rwa [PerPort.get_set_of_ne o false same] at h

/-- Who is in an open set after a port was added was in it before, or is that port. -/
theorem PortSet.get_set_true {o : PortSet} {p q : Port} (h : (o.set p true).get q = true) : o.get q = true ∨ q = p := by
  by_cases same : q = p
  · exact .inr same
  · rw [PerPort.get_set_of_ne o true same] at h
    exact .inl h

theorem getElem_set_index {α : Type} (v : PerIndex α) (i j : Index) (a : α) :
    (v.set i a)[j] = if j = i then a else v[j] := by
  simp only [Fin.getElem_fin, Vector.getElem_set, Fin.ext_iff, eq_comm]

/-- CLOSE adds no port to an open set (R148). -/
theorem State.openLaw_close {s : State} (h : s.openLaw = true) (p : Port) : (s.close p).openLaw = true := by
  unfold State.close
  split
  · exact State.openLaw_of_same h rfl rfl
  split
  · exact State.openLaw_of_same h rfl rfl
  rename_i i _
  refine State.openLaw_of_live h rfl fun j q isOpen => .inl ?_
  replace isOpen : ((s.openSets.set i ((s.openSets[i]).set p false))[j]).get q = true := isOpen
  rw [getElem_set_index] at isOpen
  split at isOpen
  · rename_i here
    subst here
    exact PortSet.get_of_get_set_false isOpen
  · exact isOpen

theorem State.WindowEffect.openLaw {s t : State} {p : Port} (h : s.openLaw = true) (e : s.WindowEffect p t) :
    t.openLaw = true := by
  obtain same | rfl := e.openSets
  · exact State.openLaw_of_same h e.sameCourse.live same
  · exact State.openLaw_close h p

/-- An OPEN that ends OK finds its port permitted (R146). -/
theorem State.permits_of_startOpen_ok {s : State} {p : Port} {i : Index} {which : Which} {key : Key}
    (ends : s.startOpen p i which key = .ends .ok) : ∃ x, s.record i = some x ∧ x.permits p = true := by
  unfold State.startOpen at ends
  split at ends
  · cases ends
  rename_i x defined
  split at ends
  · rename_i permits
    exact ⟨x, defined, permits⟩
  · cases ends

/-- A start adds a port to an open set only by an OPEN that ends OK, on a keyed record that permits the port (R147). -/
theorem State.opens_openIfMatched {s : State} {p : Port} {cmd : QueuedCommand} {st : Status}
    (outcome : s.startOutcome p cmd = .ends st) {t : State} (live : t.live = s.live) (sets : t.openSets = s.openSets)
    (j : Index) (q : Port) (isOpen : ((t.openIfMatched p cmd st).openSets[j]).get q = true) :
    (s.openSets[j]).get q = true ∨ s.MayBeOpen j q := by
  cases cmd with
  | openKey i which key =>
    unfold State.openIfMatched at isOpen
    dsimp only at isOpen
    split at isOpen
    · exact .inl (sets ▸ isOpen)
    rename_i x defined
    split at isOpen
    · rename_i matched
      obtain ⟨rfl, keyed⟩ := matched
      obtain ⟨y, same, permits⟩ := State.permits_of_startOpen_ok outcome
      obtain ⟨l, lock⟩ := Option.isSome_iff_exists.mp keyed
      replace defined : s.record i = some x := by rwa [State.record, live] at defined
      cases defined.symm.trans same
      rw [getElem_set_index, sets] at isOpen
      split at isOpen
      · rename_i here
        subst here
        refine (PortSet.get_set_true isOpen).imp id ?_
        rintro rfl
        exact ⟨x, l, defined, lock, permits⟩
      · exact .inl isOpen
    · exact .inl (sets ▸ isOpen)
  | _ => exact .inl (sets ▸ isOpen)

theorem State.openLaw_commandStart {s : State} (h : s.openLaw = true) (p : Port) :
    (s.commandStart p).openLaw = true := by
  refine State.openLaw_of_live h (s.sameCourse_commandStart p).live fun j q isOpen => ?_
  unfold State.commandStart at isOpen
  split at isOpen
  · split at isOpen
    · exact .inl isOpen
    split at isOpen
    · rename_i outcome
      rw [State.openSets_settle] at isOpen
      exact State.opens_openIfMatched outcome (State.live_updPort s p _) (State.openSets_updPort s p _) j q isOpen
    · exact .inl (by simpa [State.becomeActive] using isOpen)
  · exact .inl isOpen

/-- A switchover leaves open what the new table keys and permits (R32). -/
theorem State.openLaw_switchover (s : State) (g : Segment) (new : Table) : (s.switchover g new).openLaw = true := by
  refine (State.openLaw_iff _).mpr fun i q isOpen => ?_
  rw [State.openSets_switchover] at isOpen
  obtain ⟨x, l, defined, keyed, permits, -⟩ := (get_alignOpen _ _ _ _ _).mp isOpen
  have live : (s.switchover g new).live = new := (s.sameCourse_switchover g new).live
  rw [← live] at defined
  exact ⟨x, l, defined, keyed, permits⟩

theorem State.openLaw_tableFault {s : State} (h : s.openLaw = true) (p : Port) (cmd : QueuedCommand) (removed : Bool) :
    (s.tableFault p cmd removed).openLaw = true :=
  State.openLaw_of_same h (s.sameCourse_tableFault p cmd removed).live (s.openSets_tableFault p cmd removed)

theorem State.openLaw_grant {s : State} (h : s.openLaw = true) (p : Port) (e : Entry) (a : Active) (w : Work) :
    (s.grant p e a w).openLaw = true := by
  unfold State.grant
  split
  · exact State.openLaw_settle
      (State.openLaw_tableFault (s := { s with lastGranted := p, standbyTimer := none }) h p e.cmd false)
  · exact State.openLaw_settle (State.openLaw_of_same h rfl rfl)

theorem State.openLaw_landed {s : State} (h : s.openLaw = true) (array : Memory) :
    ({ s.landed with array := array } : State).openLaw = true :=
  State.openLaw_of_same h rfl rfl

theorem State.openLaw_headerEnd {s : State} (h : s.openLaw = true) (g : Segment) (new : Table) (ok : Bool) :
    (s.headerEnd g new ok).openLaw = true := by
  unfold State.headerEnd
  dsimp only
  split
  · exact State.openLaw_of_same h rfl rfl
  · exact State.openLaw_settle (State.openLaw_tableFault (State.openLaw_landed h _) _ _ _)

theorem State.openLaw_recordsEnd {s : State} (h : s.openLaw = true) (g : Segment) (new : Table) (ok : Bool) :
    (s.recordsEnd g new ok).openLaw = true := by
  unfold State.recordsEnd
  dsimp only
  split
  · exact State.openLaw_settle (State.openLaw_switchover _ g new)
  · exact State.openLaw_settle (State.openLaw_tableFault (State.openLaw_landed h _) _ _ _)

/-- The load brings in a live table, and no port is in an open set while it runs (R35, R36). -/
theorem State.Loading.openLaw_loadEnd {s : State} (h : s.Loading) (got : List ReadReport) :
    (s.loadEnd got).openLaw = true := by
  unfold State.loadEnd
  split
  · exact State.openLaw_of_empty h.openSets
  · exact State.openLaw_settle (State.openLaw_of_empty h.openSets)

/-- A port reset takes the port out of every open set (R158). -/
theorem State.openLaw_resetPort {s : State} (h : s.openLaw = true) (p : Port) : (s.resetPort p).openLaw = true := by
  refine State.openLaw_settle (State.openLaw_of_live h rfl fun i q isOpen => .inl ?_)
  replace isOpen : ((Vector.ofFn fun i : Fin 8 => (s.openSets[i]).set p false)[i]).get q = true := isOpen
  rw [Fin.getElem_fin, Vector.getElem_ofFn] at isOpen
  exact PortSet.get_of_get_set_false isOpen

/-! ### The law over a step -/

/-- A read of the load is in flight only while LOADING (R73). -/
theorem State.loading_of_load {s : State} (h : s.Loading ∨ s.Serving) {got : List ReadReport}
    (flight : s.inFlight = some (.load got)) : s.Loading := by
  obtain loading | serving := h
  · exact loading
  · obtain none | ⟨⟨g, segment⟩, -⟩ := serving.flight
    · cases none.symm.trans flight
    · cases segment.symm.trans flight

/-- Every event keeps the law of the open sets. -/
theorem State.Event.openLaw {s t : State} (part : s.Loading ∨ s.Serving) (h : s.openLaw = true) (e : s.Event t) :
    t.openLaw = true := by
  cases e with
  | nothing => exact h
  | commandStart p => exact State.openLaw_commandStart h p
  | grant _ _ _ _ => exact State.openLaw_grant h _ _ _ _
  | readEnd _ _ _ =>
    exact State.openLaw_settle (State.openLaw_of_same h (s.sameCourse_readEnd _ _ _).live (s.openSets_readEnd _ _ _))
  | checkEnd _ _ _ =>
    exact State.openLaw_settle (State.openLaw_of_same h (s.sameCourse_checkEnd _ _ _).live (s.openSets_checkEnd _ _ _))
  | writeEnd ok _ _ _ =>
    exact State.openLaw_settle (State.openLaw_of_same h
      ((s.sameCourse_writeEnd _ _ _ _ _ ok).live.trans (s.live_programmed _ _ _ _ ok))
      (s.openSets_writeEnd _ _ _ _ _ ok))
  | blankEnd _ _ _ =>
    exact State.openLaw_settle
      (State.openLaw_of_same h (s.sameCourse_blankEnd _ _ _ _).live (s.openSets_blankEnd _ _ _ _))
  | wipeBlockEnd _ _ _ =>
    exact State.openLaw_settle
      (State.openLaw_of_same h (s.sameCourse_wipeBlockEnd _ _ _).live (s.openSets_wipeBlockEnd _ _ _))
  | tableBlankEnd _ _ => exact State.openLaw_of_same h rfl rfl
  | headerEnd ok _ _ => exact State.openLaw_headerEnd h _ _ ok
  | recordsEnd ok _ _ => exact State.openLaw_recordsEnd h _ _ ok
  | loadEnd flight => exact (State.loading_of_load part flight).openLaw_loadEnd _
  | standbyExpiry => exact State.openLaw_of_same h s.sameCourse_standbyExpiry.live s.openSets_standbyExpiry
  | wakeEnd => exact State.openLaw_of_same h s.sameCourse_wakeEnd.live s.openSets_wakeEnd
  | leaseExpiry => exact State.openLaw_of_same h s.sameCourse_leaseExpiry.live s.openSets_leaseExpiry
  | stallExpiry p => exact State.openLaw_of_same h (s.sameCourse_stallExpiry p).live (s.openSets_stallExpiry p)
  | tick => exact State.openLaw_of_same h rfl rfl
  | resetPort p _ _ => exact State.openLaw_resetPort h p
  | withPrst p level => exact State.openLaw_of_same h rfl rfl
  | partReset begun _ => exact State.openLaw_of_empty rfl
  | partResetUnpowered _ => exact State.openLaw_of_same h rfl rfl
  | releaseReset _ => exact State.openLaw_of_same h rfl rfl
  | powerOn begun => exact State.openLaw_of_empty rfl
  | powerLoss begun _ => exact State.openLaw_of_empty rfl

/-- Settles O14: a port comes into an open set only by an OPEN that ends OK or at a switchover, each time on a keyed
record that permits it; the load changes the live table while the open sets are empty. -/
theorem openSetLawIsKept : Obligations.OpenSetLawIsKept := by
  intro s t loading flight opened h
  refine step_induction (I := fun s => (s.Loading ∨ s.Serving) ∧ s.openLaw = true) (J := fun t => t.openLaw = true)
    (fun s l ⟨part, h⟩ => ⟨State.loading_or_serving_with part l s.frame s.selected, h⟩)
    (fun s f b ⟨part, h⟩ => ⟨State.loading_or_serving_with part s.pending f b, h⟩)
    (fun _ _ _ h => h) (fun ⟨_, h⟩ e => e.openLaw h) (fun ⟨part, h⟩ e => e.openLaw part h) h
    ⟨(State.loading_or_serving_iff s).mp ⟨loading, flight⟩, opened⟩

end Sys2Proof.Machine

namespace Sys2Proof.Machine

/-! ### HOLD (R156) -/

theorem State.takeHold_of_loading {s : State} (loading : s.part = .loading) (p : Port) :
    s.takeHold p = s.answer p (codeAlone 0x26) := by
  rw [State.takeHold, if_pos loading]
  rfl

section

/-! HOLD while READY, by the hold and the table state. -/

variable {s : State} (ready : s.part = .ready) (p : Port)

include ready

theorem State.takeHold_of_held (held : s.held = true) : s.takeHold p = s.answer p (codeAlone 0x20) := by
  simp only [State.takeHold, ready, held, reduceCtorEq, if_false, if_true]
  rfl

variable (released : s.held = false)

include released

/-- In FREE the hold comes into force. -/
theorem State.takeHold_of_free (free : s.tableState = .free) :
    s.takeHold p = { s with held := true }.answer p (codeAlone 0x20) := by
  simp only [State.takeHold, ready, released, free, reduceCtorEq, Bool.false_eq_true, if_false]
  rfl

theorem State.takeHold_of_busy (busy : s.tableState ≠ .free) : s.takeHold p = s.answer p (codeAlone 0x10) := by
  cases table : s.tableState with
  | free => exact absurd table busy
  | _ =>
    simp only [State.takeHold, ready, released, table, reduceCtorEq, Bool.false_eq_true, if_false]
    rfl

end

/-- Settles O32: the cases of HOLD in their order. -/
theorem holdIsTakenInFree : Obligations.HoldIsTakenInFree := by
  intro s p made
  refine ⟨fun loading => ?_, fun ready => ⟨fun held => ?_, fun released free => ?_, fun released busy => ?_⟩⟩
  · exact State.next_onWrite_answer made (State.takeHold_of_loading loading p)
  · exact State.next_onWrite_answer made (State.takeHold_of_held ready p held)
  · exact State.next_onWrite_answer made (State.takeHold_of_free ready p released free)
  · exact State.next_onWrite_answer made (State.takeHold_of_busy ready p released busy)

/-! ### CLOSE (R148) -/

theorem State.close_of_loading {s : State} (loading : s.part = .loading) (p : Port) :
    s.close p = s.answer p (codeAlone 0x26) := by
  rw [State.close, if_pos loading]
  rfl

section

variable {s : State} {p : Port} (ready : s.part = .ready)

include ready

theorem State.close_of_badIndex (far : 7 < (s.port p).params[0].toNat) :
    s.close p = s.answer p (codeAlone 0x25) := by
  have none : indexOf ((s.port p).param 0) = none := indexOf_of_gt far
  simp only [State.close, ready, none, reduceCtorEq, if_false]
  rfl

/-- CLOSE tells in ANSWER1 whether the port was in the open set that it leaves. -/
theorem State.close_of_index {i : Index} (index : (s.port p).params[0].toNat = i.val) :
    s.close p =
      { s with openSets := s.openSets.set i ((s.openSets[i]).set p false) }.answer p
        (codeWith 0x20 (if (s.openSets[i]).get p then 1 else 0)) := by
  have named : indexOf ((s.port p).param 0) = some i := indexOf_of_eq index
  simp only [State.close, ready, named, reduceCtorEq, if_false]
  cases (s.openSets[i]).get p <;> rfl

end

/-- Settles O33: LOADING, an index out of range, and the removal from the open set of the index. -/
theorem closeLeavesTheOpenSet : Obligations.CloseLeavesTheOpenSet := by
  intro s p made
  refine ⟨fun loading => ?_, fun ready => ⟨fun far => ?_, fun i index => ?_⟩⟩
  · exact State.next_onWrite_answer made (State.close_of_loading loading p)
  · exact State.next_onWrite_answer made (State.close_of_badIndex ready far)
  · exact State.next_onWrite_answer made (State.close_of_index ready index)

/-! ### STAGE KEY (R153) -/

/-- STAGE KEY puts the given key in the stage, and reads all zero bytes as none. -/
theorem State.stageKey_of_given {s : State} {p : Port} {key : Key} (given : (s.port p).keyGiven key) :
    s.stageKey p =
      s.setPort p
        { s.port p with
          keyStage := if key = Vector.replicate 16 0 then none else some key, answers := codeAlone 0x20 } := by
  obtain rfl := PortUnit.paramKey_of_given given
  rfl

/-- Settles O34: the access is made, and its effect is that of `State.stageKey_of_given`. -/
theorem stageKeyHoldsTheKey : Obligations.StageKeyHoldsTheKey := by
  intro s p key made given
  show Host.Outcome.next (s.onWrite p 0 fun s => s.stageKey p) = _
  rw [State.onWrite_of_made _ made, State.stageKey_of_given given]

end Sys2Proof.Machine

namespace Sys2Proof.Machine

/-! ### OPEN (R146) -/

section

/-! The start of an OPEN by a port that is permitted on a defined partition. -/

variable {s : State} {p : Port} {i : Index} {x : Partition} (record : s.live.records[i] = some x)
  (permits : x.permits p = true)

include record permits

theorem State.startOpen_of_unkeyed (unkeyed : x.lock = none) (which : Which) (key : Key) :
    s.startOpen p i which key = .ends .ok := by
  have defined : s.record i = some x := record
  simp only [State.startOpen, defined, permits, unkeyed, if_true]

variable {l : KeyLock} (keyed : x.lock = some l)

include keyed

/-- The recovery key opens no partition in STRICT mode. -/
theorem State.startOpen_of_strict (strict : l.mode = .strict) (key : Key) :
    s.startOpen p i .recovery key = .ends .modeRefused := by
  have defined : s.record i = some x := record
  simp only [State.startOpen, defined, permits, keyed, strict, and_self, if_true]

/-- Past the key_mode the comparison decides: a failed one gives the status, a match OK. -/
theorem State.startOpen_of_compared {which : Which} (mode : which = .partition ∨ l.mode = .standard) (key : Key) :
    s.startOpen p i which key = .ends ((s.compareKey p (s.whichMatches l which key)).getD .ok) := by
  have defined : s.record i = some x := record
  have admitted : ¬ (which = .recovery ∧ l.mode = .strict) := by
    rintro ⟨rfl, strict⟩
    simp [strict] at mode
  simp only [State.startOpen, defined, permits, keyed, admitted, if_true, if_false]
  cases s.compareKey p (s.whichMatches l which key) <;> rfl

end

/-- An OPEN that ends OK on an unkeyed partition adds no port to an open set. -/
theorem State.openIfMatched_of_unkeyed {s : State} {i : Index} {x : Partition} (record : s.live.records[i] = some x)
    (unkeyed : x.lock = none) (p : Port) (which : Which) (key : Key) (st : Status) :
    s.openIfMatched p (.openKey i which key) st = s := by
  have defined : s.record i = some x := record
  simp only [State.openIfMatched, defined, unkeyed, Option.isSome_none, Bool.false_eq_true, and_false, if_false]

/-- An OPEN that ends OK on a keyed partition adds its port to the open set (R147). -/
theorem State.openIfMatched_of_keyed {s : State} {i : Index} {x : Partition} {l : KeyLock}
    (record : s.live.records[i] = some x) (keyed : x.lock = some l) (p : Port) (which : Which) (key : Key) :
    s.openIfMatched p (.openKey i which key) .ok =
      { s with openSets := s.openSets.set i ((s.openSets[i]).set p true) } := by
  have defined : s.record i = some x := record
  simp only [State.openIfMatched, defined, keyed, Option.isSome_some, and_self, if_true]

/-- When the key of an OPEN matches (R146). -/
theorem State.whichMatches_iff (s : State) (l : KeyLock) (which : Which) (key : Key) :
    s.whichMatches l which key = true ↔
      (which = .partition ∧ key = l.key) ∨ (which = .recovery ∧ s.live.recovery = some key) := by
  cases which <;> simp [State.whichMatches]

/-- Settles O46: the status is that of the first case of R146 that decides, and what the end does follows from it. -/
theorem openComparesAndAddsThePort : Obligations.OpenComparesAndAddsThePort := by
  intro s p e rest i which key x ready cmd record access ends ends_eq
  have permits : x.permits p = true := (x.permits_iff p).mpr access
  have outcome : s.startOutcome p e.cmd = s.startOpen p i which key := by rw [cmd, State.startOutcome]
  have ended : ∀ st, ends st = s.startEnded p rest (s.startRecord e st) := fun st => by
    rw [ends_eq, State.startRecord_of_part (i := i) (by rw [cmd]; rfl), cmd]
    rfl
  have fails : ∀ {st}, s.startOpen p i which key = .ends st → st ≠ .ok → st ≠ .keyMismatch →
      exec (.commandStart p) s = .next (ends st).settle := fun {st} failing notOk spared => by
    rw [exec_commandStart_of_ends ready (outcome.trans failing) spared, State.openIfMatched_of_not_ok notOk, ended]
  have opens : s.startOpen p i which key = .ends .ok →
      exec (.commandStart p) s = .next ((ends .ok).openIfMatched p (.openKey i which key) .ok).settle := fun ok => by
    rw [exec_commandStart_of_ends ready (outcome.trans ok) (by simp), ← ended, cmd]
  have same : (ends .ok).live.records[i] = some x := by rw [ended]; exact record
  refine ⟨fun unkeyed => ?unkeyed, fun l keyed => ⟨?modeRefused, fun mode => ?compared⟩⟩
  case unkeyed =>
    rw [opens (State.startOpen_of_unkeyed record permits unkeyed which key),
      State.openIfMatched_of_unkeyed same unkeyed]
  case modeRefused =>
    rintro rfl strict
    exact fails (State.startOpen_of_strict record permits keyed strict key) (by simp) (by simp)
  case compared =>
    have decides := State.startOpen_of_compared record permits keyed mode key
    have comparison := State.comparison_compareKey (s := s) (p := p) not_false trivial
      (s.whichMatches_iff l which key).symm
    refine ⟨fun zero => ?budgetSpent, fun left => ⟨fun equal => ?matched, fun differs => ?keyMismatch⟩⟩
    case budgetSpent =>
      rw [comparison.spent trivial zero] at decides
      exact fails decides (by simp) (by simp)
    case matched =>
      rw [comparison.pass not_false fun _ => ⟨left, equal⟩] at decides
      rw [opens decides, State.openIfMatched_of_keyed same keyed, ended]
      rfl
    case keyMismatch =>
      have unequal : ¬ ((which = .partition ∧ key = l.key) ∨ (which = .recovery ∧ s.live.recovery = some key)) := by
        obtain ⟨rfl, other⟩ | ⟨rfl, other⟩ := differs <;> simp [other]
      rw [comparison.mismatch trivial left unequal] at decides
      exact exec_commandStart_of_keyMismatch ready (outcome.trans decides) (ended _)

end Sys2Proof.Machine

namespace Sys2Proof.Machine

/-! ### The completion law and the notice law, of a port unit (R159, R167) -/

/-- The completion law with what it rests on of the queue law: records and reserved slots never exceed 8, a slot is
reserved exactly while an entry is ACTIVE, and only the oldest entry may be ACTIVE. -/
structure PortUnit.SlotLaw (u : PortUnit) : Prop where
  behind : u.QueuedBehind
  room : u.completions.length + u.reserved ≤ 8
  reserved : u.reserved = flagCode u.activeEntry.isSome

theorem PortUnit.completionLaw_iff (u : PortUnit) :
    u.completionLaw = true ↔ u.completions.length + u.reserved ≤ 8 ∧ u.reserved = flagCode u.activeEntry.isSome := by
  simp only [PortUnit.completionLaw, Bool.and_eq_true, decide_eq_true_eq]

theorem PortUnit.noticeLaw_iff (u : PortUnit) : u.noticeLaw = true ↔ u.notice &&& u.watch = u.notice := by
  simp only [PortUnit.noticeLaw, decide_eq_true_eq]

/-- A queue of QUEUED entries has no ACTIVE entry. -/
theorem PortUnit.activeEntry_of_queued {u : PortUnit} (h : ∀ e ∈ u.queue, e.active = none) : u.activeEntry = none :=
  PortUnit.activeEntry_of_noneActive (List.all_eq_true.mpr fun e mem => by simp [h e mem])

/-- Without an ACTIVE entry no slot is reserved. -/
theorem PortUnit.slotLaw_of_queued {u : PortUnit} (queued : ∀ e ∈ u.queue, e.active = none)
    (room : u.completions.length ≤ 8) (reserved : u.reserved = 0) : u.SlotLaw where
  behind e mem := queued e (List.mem_of_mem_tail mem)
  room := by omega
  reserved := by rw [PortUnit.activeEntry_of_queued queued, reserved]; rfl

/-- The law speaks of the queue, the completion queue and the reserved slots alone. -/
theorem PortUnit.SlotLaw.congr {u v : PortUnit} (law : u.SlotLaw) (queue : v.queue = u.queue)
    (completions : v.completions = u.completions) (reserved : v.reserved = u.reserved) : v.SlotLaw where
  behind e mem := law.behind e (queue ▸ mem)
  room := by rw [completions, reserved]; exact law.room
  reserved := by rw [PortUnit.activeEntry_congr queue, reserved]; exact law.reserved

/-- From `u` to `v` the completion law and the notice law are kept. -/
structure PortUnit.KeepsLaws (u v : PortUnit) : Prop where
  slots : u.SlotLaw → v.SlotLaw
  notices : u.noticeLaw = true → v.noticeLaw = true

theorem PortUnit.KeepsLaws.refl (u : PortUnit) : u.KeepsLaws u := ⟨id, id⟩

theorem PortUnit.KeepsLaws.trans {u v w : PortUnit} (h : u.KeepsLaws v) (k : v.KeepsLaws w) : u.KeepsLaws w :=
  ⟨k.slots ∘ h.slots, k.notices ∘ h.notices⟩

theorem PortUnit.noticeLaw_congr {u v : PortUnit} (notice : v.notice = u.notice) (watch : v.watch = u.watch) :
    v.noticeLaw = u.noticeLaw := by
  simp only [PortUnit.noticeLaw, notice, watch]

/-- A change of the queue by which no entry becomes or ceases to be ACTIVE. -/
theorem PortUnit.KeepsLaws.of_active {u v : PortUnit} (behind : u.QueuedBehind → v.QueuedBehind)
    (active : u.QueuedBehind → v.activeEntry.isSome = u.activeEntry.isSome)
    (completions : v.completions = u.completions) (reserved : v.reserved = u.reserved) (notice : v.notice = u.notice)
    (watch : v.watch = u.watch) : u.KeepsLaws v where
  slots law := ⟨behind law.behind, by rw [completions, reserved]; exact law.room,
    by rw [active law.behind, reserved]; exact law.reserved⟩
  notices law := (PortUnit.noticeLaw_congr notice watch).trans law

/-- A change beside the queue, the completion queue and the two sets. -/
theorem PortUnit.KeepsLaws.of_same {u v : PortUnit} (queue : v.queue = u.queue)
    (completions : v.completions = u.completions) (reserved : v.reserved = u.reserved) (notice : v.notice = u.notice)
    (watch : v.watch = u.watch) : u.KeepsLaws v :=
  ⟨fun law => law.congr queue completions reserved, (PortUnit.noticeLaw_congr notice watch).trans⟩

/-- The ACTIVE entry is exchanged for one that is ACTIVE too. -/
theorem PortUnit.keepsLaws_goesOn (u : PortUnit) {e f : Entry} {a : Active}
    (active : u.QueuedBehind → u.activeEntry = some (e, a)) (started : f.active.isSome = true) :
    u.KeepsLaws { u with queue := f :: u.queue.tail } := by
  refine .of_active (fun behind => behind) (fun behind => ?_) rfl rfl rfl rfl
  rw [PortUnit.activeEntry_cons _ f _ rfl, active behind, Option.isSome_map, started]
  rfl

theorem PortUnit.keepsLaws_setProgress (u : PortUnit) (pr : Progress) : u.KeepsLaws (u.setProgress pr) := by
  cases active : u.activeEntry with
  | none =>
    rw [show u.setProgress pr = u by simp only [PortUnit.setProgress, active]]
    exact .refl u
  | some x =>
    rw [PortUnit.setProgress_of_active active]
    exact u.keepsLaws_goesOn (fun _ => active) rfl

/-- New progress after a change that keeps the laws. -/
theorem PortUnit.KeepsLaws.setProgress {u v : PortUnit} (h : u.KeepsLaws v) (pr : Progress) :
    u.KeepsLaws (v.setProgress pr) := h.trans (v.keepsLaws_setProgress pr)

/-- An ABORT is noted in the entry that it found started, which is the oldest one. -/
theorem PortUnit.keepsLaws_setActive (u : PortUnit) {e : Entry} {a : Active} (mem : e ∈ u.queue)
    (started : e.active = some a) (b : Active) : u.KeepsLaws (u.setActive b) := by
  cases queue : u.queue with
  | nil => simp [queue] at mem
  | cons x rest =>
    have set : u.setActive b = { u with queue := { x with active := some b } :: u.queue.tail } := by
      simp only [PortUnit.setActive, queue, List.tail_cons]
    rw [set]
    exact u.keepsLaws_goesOn (fun behind => PortUnit.activeEntry_of_found behind mem started) rfl

/-- An issue appends a QUEUED entry, or none (R62). -/
theorem PortUnit.keepsLaws_issueQueued (u : PortUnit) (tag : Byte) (given : Option QueuedCommand) :
    u.KeepsLaws (u.issueQueued tag given) := by
  obtain ⟨completions, reserved, notice, watch⟩ : (u.issueQueued tag given).completions = u.completions ∧
      (u.issueQueued tag given).reserved = u.reserved ∧ (u.issueQueued tag given).notice = u.notice ∧
      (u.issueQueued tag given).watch = u.watch := by
    unfold PortUnit.issueQueued
    repeat' split
    all_goals exact ⟨rfl, rfl, rfl, rfl⟩
  exact .of_active (fun behind => (u.noNewActive_issueQueued tag given behind).1)
    (fun _ => congrArg Option.isSome (u.sameTimers_issueQueued tag given).activeEntry) completions reserved notice watch

/-- An ABORT takes a QUEUED entry out of the queue (R75). -/
theorem PortUnit.keepsLaws_withdraw (u : PortUnit) {tag : Byte} {e : Entry}
    (found : u.queue.find? (fun e => decide (e.tag = tag)) = some e) (queued : e.active = none) :
    u.KeepsLaws { u with queue := u.queue.eraseP fun e => decide (e.tag = tag) } := by
  refine .of_active (fun behind => (u.noNewActive_eraseP tag behind).1) (fun behind => ?_) rfl rfl rfl rfl
  cases queue : u.queue with
  | nil => simp [queue] at found
  | cons x rest =>
    by_cases oldest : x.tag = tag
    · obtain rfl : x = e := by simpa [queue, oldest] using found
      have none : ∀ y ∈ u.queue, y.active = Option.none := fun y mem => by
        obtain rfl | later := List.mem_cons.mp (queue ▸ mem)
        · exact queued
        · exact behind y (by rwa [queue])
      rw [PortUnit.activeEntry_of_queued none, PortUnit.activeEntry_of_queued]
      exact fun y mem => none y (queue ▸ List.mem_of_mem_eraseP (p := fun e => decide (e.tag = tag)) mem)
    · simp [PortUnit.activeEntry, queue, oldest]

/-- POP takes the oldest record, which gives its slot up (R161). -/
theorem PortUnit.keepsLaws_pop (u : PortUnit) : u.KeepsLaws u.pop := by
  unfold PortUnit.pop
  split
  · exact .of_same rfl rfl rfl rfl rfl
  · rename_i r rest completions
    refine ⟨fun law => ⟨law.behind, ?_, law.reserved⟩, id⟩
    have room := law.room
    simp only [completions, List.length_cons] at room
    show rest.length + u.reserved ≤ 8
    omega

/-- The end of an ACTIVE entry exchanges its reserved slot for a record (R67, R160). -/
theorem PortUnit.slotLaw_ended {u v : PortUnit} (law : u.SlotLaw) {e : Entry} {a : Active} {r : Completion}
    (active : u.activeEntry = some (e, a)) (queue : v.queue = u.queue.tail)
    (completions : v.completions = u.completions ++ [r]) (reserved : v.reserved = u.reserved - 1) : v.SlotLaw := by
  have one : u.reserved = 1 := by rw [law.reserved, active]; rfl
  have room := law.room
  refine PortUnit.slotLaw_of_queued (fun e mem => law.behind e (queue ▸ mem)) ?_ (by omega)
  rw [completions, List.length_append, List.length_singleton]
  omega

/-- A reset leaves no entry, no record and no reserved slot, and both sets empty (R159, R166, R167). -/
theorem PortUnit.keepsLaws_reset (u : PortUnit) {v : PortUnit} (queue : v.queue = []) (completions : v.completions = [])
    (reserved : v.reserved = 0) (notice : v.notice = 0) : u.KeepsLaws v where
  slots _ := PortUnit.slotLaw_of_queued (by simp [queue]) (by simp [completions]) reserved
  notices _ := by simp [PortUnit.noticeLaw_iff, notice]

/-! #### The start of the oldest entry (R64) -/

section

variable {u : PortUnit} (queued : ∀ e ∈ u.queue, e.active = none) (room : u.completions.length + u.reserved < 8)

include queued room

/-- The record of a command that ends at its start goes into the slot just reserved (R66). -/
theorem PortUnit.keepsLaws_endAtStart (r : Completion) (st : Status) :
    u.KeepsLaws { ((u.reserve.post r).spend st) with queue := u.queue.tail } := by
  have spent : ∀ v : PortUnit, (v.spend st).completions = v.completions ∧ (v.spend st).reserved = v.reserved ∧
      (v.spend st).noticeLaw = v.noticeLaw := fun v => by
    unfold PortUnit.spend
    split <;> exact ⟨rfl, rfl, rfl⟩
  obtain ⟨completions, reserved, notices⟩ := spent (u.reserve.post r)
  refine ⟨fun law => ?_, notices.trans⟩
  have none : u.reserved = 0 := by rw [law.reserved, PortUnit.activeEntry_of_queued queued]; rfl
  refine PortUnit.slotLaw_of_queued (fun e mem => queued e (List.mem_of_mem_tail mem)) ?_ ?_
  · refine (congrArg List.length completions).le.trans ?_
    show (u.completions ++ [r]).length ≤ 8
    rw [List.length_append, List.length_singleton]
    omega
  · refine reserved.trans ?_
    show u.reserved + 1 - 1 = 0
    omega

/-- A command that becomes ACTIVE reserves a slot (R64). -/
theorem PortUnit.keepsLaws_becomeActive {e : Entry} (started : e.active.isSome = true) :
    u.KeepsLaws { u.reserve with queue := e :: u.queue.tail, moved := 0 } := by
  refine ⟨fun law => ?_, id⟩
  have none : u.reserved = 0 := by rw [law.reserved, PortUnit.activeEntry_of_queued queued]; rfl
  refine ⟨law.behind, Nat.succ_le_of_lt room, ?_⟩
  rw [PortUnit.activeEntry_cons _ e _ rfl, Option.isSome_map, started]
  show u.reserved + 1 = 1
  omega

end

/-! #### The notice set (R167 to R170) -/

/-- A partition joins the notice set of a port that watches it (R169). -/
theorem PortUnit.keepsLaws_notified (u : PortUnit) {i : Index} (watched : u.watch &&& indexBit i ≠ 0) :
    u.KeepsLaws { u with notice := u.notice ||| indexBit i } := by
  have bit : indexBit i &&& u.watch = indexBit i := by
    have both := BitVec.and_twoPow u.watch i.val
    rw [BitVec.twoPow] at both
    change u.watch &&& indexBit i = if _ then indexBit i else _ at both
    split at both
    · rw [BitVec.and_comm, both]
    · exact absurd both watched
  refine ⟨fun law => law.congr rfl rfl rfl, fun law => ?_⟩
  rw [PortUnit.noticeLaw_iff] at law ⊢
  show (u.notice ||| indexBit i) &&& u.watch = u.notice ||| indexBit i
  rw [BitVec.and_comm, BitVec.and_or_distrib_left, BitVec.and_comm _ u.notice, BitVec.and_comm _ (indexBit i), law, bit]

/-- WATCH keeps of the notice set what is still watched (R168). -/
theorem PortUnit.keepsLaws_watch (u : PortUnit) (set : IndexSet) (ws : Vector Word 8) :
    u.KeepsLaws { u with watch := set, notice := u.notice &&& set, answers := ws } where
  slots law := law.congr rfl rfl rfl
  notices _ := by
    rw [PortUnit.noticeLaw_iff]
    show u.notice &&& set &&& set = u.notice &&& set
    rw [BitVec.and_assoc, BitVec.and_self]

/-- NOTICES empties the notice set (R170). -/
theorem PortUnit.keepsLaws_notices (u : PortUnit) : u.KeepsLaws u.notices where
  slots law := law.congr rfl rfl rfl
  notices _ := by simp [PortUnit.noticeLaw_iff, PortUnit.notices]

end Sys2Proof.Machine

namespace Sys2Proof.Machine

/-! ### The laws of the completion queues, the notice sets and the lease, kept by a change (R42, R43, R159, R167) -/

theorem State.leaseLaw_congr {s t : State} (h : t.tableState = s.tableState) : t.leaseLaw = s.leaseLaw := by
  simp only [State.leaseLaw, h]

/-- While CLAIMED the lease lies in 1 to 255 and its timer not beyond it. -/
theorem State.leaseLaw_iff_of_claimed {s : State} {h : Port} {staged : Table} {lease n : Nat}
    (claimed : s.tableState = .claimed h staged lease n) :
    s.leaseLaw = true ↔ (1 ≤ lease ∧ lease ≤ 255) ∧ n ≤ lease * 10 := by
  simp only [State.leaseLaw, claimed, Bool.and_eq_true, decide_eq_true_eq]
  exact Iff.rfl

theorem State.leaseLaw_iff_of_committing {s : State} {h : Port} {staged : Table} {lease : Nat}
    (committing : s.tableState = .committing h staged lease) : s.leaseLaw = true ↔ 1 ≤ lease ∧ lease ≤ 255 := by
  simp only [State.leaseLaw, committing, Bool.and_eq_true, decide_eq_true_eq]

/-- From `s` to `t` each port's completion law and notice law are kept, and the bounds of the lease. -/
structure State.KeepsLaws (s t : State) : Prop where
  port : ∀ p, (s.port p).KeepsLaws (t.port p)
  lease : s.leaseLaw = true → t.leaseLaw = true

theorem State.KeepsLaws.refl (s : State) : s.KeepsLaws s := ⟨fun _ => .refl _, id⟩

theorem State.KeepsLaws.trans {s t u : State} (h : s.KeepsLaws t) (k : t.KeepsLaws u) : s.KeepsLaws u :=
  ⟨fun p => (h.port p).trans (k.port p), k.lease ∘ h.lease⟩

/-- The ports stay, and the table state keeps the bounds of the lease. -/
theorem State.KeepsLaws.of_ports {s t : State} (ports : t.ports = s.ports)
    (lease : s.leaseLaw = true → t.leaseLaw = true) : s.KeepsLaws t := by
  refine ⟨fun p => ?_, lease⟩
  rw [State.port, State.port, ports]
  exact .refl _

theorem State.keepsLaws_settle (s : State) : s.KeepsLaws s.settle where
  port p := by
    rw [State.port_settle]
    exact .of_same rfl rfl rfl rfl rfl
  lease := (State.leaseLaw_congr s.tableState_settle).trans

theorem State.KeepsLaws.settle {s t : State} (h : s.KeepsLaws t) : s.KeepsLaws t.settle := h.trans t.keepsLaws_settle

/-- The table state, the hold, the open sets and one port unit change. -/
theorem State.keepsLaws_updPort_with (s : State) {tableState : TableState} (held : Bool) (openSets : PerIndex PortSet)
    (lease : s.leaseLaw = true → { s with tableState := tableState }.leaseLaw = true) {p : Port}
    {f : PortUnit → PortUnit} (h : (s.port p).KeepsLaws (f (s.port p))) :
    s.KeepsLaws ({ s with tableState := tableState, held := held, openSets := openSets }.updPort p f) := by
  refine ⟨fun q => ?_, lease⟩
  show (s.port q).KeepsLaws ((s.updPort p f).port q)
  by_cases here : q = p
  · subst here
    rwa [State.port_updPort_same]
  · rw [State.port_updPort_of_ne _ _ here]
    exact .refl _

theorem State.keepsLaws_updPort (s : State) {p : Port} {f : PortUnit → PortUnit}
    (h : (s.port p).KeepsLaws (f (s.port p))) : s.KeepsLaws (s.updPort p f) :=
  s.keepsLaws_updPort_with s.held s.openSets id h

/-- An answer, with the table state, the hold and the open sets changed before it. -/
theorem State.keepsLaws_answer_with (s : State) {tableState : TableState} (held : Bool) (openSets : PerIndex PortSet)
    (lease : s.leaseLaw = true → { s with tableState := tableState }.leaseLaw = true) (p : Port) (ws : Vector Word 8) :
    s.KeepsLaws ({ s with tableState := tableState, held := held, openSets := openSets }.answer p ws) :=
  s.keepsLaws_updPort_with held openSets lease (.of_same rfl rfl rfl rfl rfl)

theorem State.keepsLaws_answer (s : State) (p : Port) (ws : Vector Word 8) : s.KeepsLaws (s.answer p ws) :=
  s.keepsLaws_answer_with s.held s.openSets id p ws

theorem State.keepsLaws_setProgress (s : State) (p : Port) (pr : Progress) :
    s.KeepsLaws (s.updPort p fun u => u.setProgress pr) :=
  s.keepsLaws_updPort (PortUnit.keepsLaws_setProgress _ pr)

/-- The end of the ACTIVE entry of a port posts its record in the slot reserved for it (R67, R160). -/
theorem State.keepsLaws_finish (s : State) (p : Port) (st : Status) : s.KeepsLaws (s.finish p st) := by
  cases active : (s.port p).activeEntry with
  | none =>
    rw [State.finish_of_idle st active]
    exact .refl s
  | some x =>
    obtain ⟨e, a⟩ := x
    rw [State.finish_of_active st active]
    exact s.keepsLaws_updPort (f := fun _ => _) ⟨fun law => PortUnit.slotLaw_ended law active rfl rfl rfl, id⟩

/-- A COMMIT that leaves its table state goes back to CLAIMED with the lease timer restarted (R41, R55). -/
theorem State.keepsLaws_leaveTableState (s : State) (cmd : QueuedCommand) : s.KeepsLaws (s.leaveTableState cmd) := by
  refine .of_ports (s.ports_leaveTableState cmd) ?_
  cases cmd with
  | commit =>
    cases table : s.tableState with
    | committing h staged lease =>
      rw [State.leaveTableState_commit_of_committing table, State.leaseLaw_iff_of_committing table,
        State.leaseLaw_iff_of_claimed rfl]
      exact fun bounds => ⟨bounds, Nat.zero_le _⟩
    | _ => exact (State.leaseLaw_congr (by simp only [State.leaveTableState, table])).trans
  | wipe _ _ _ | setKey _ _ _ | clearKey _ _ | setRecovery _ _ => exact fun _ => rfl
  | _ => exact id

/-- A COMMIT that becomes ACTIVE keeps the lease of its claim (R52). -/
theorem State.keepsLaws_enterTableState (s : State) (p : Port) (cmd : QueuedCommand) :
    s.KeepsLaws (s.enterTableState p cmd) := by
  refine .of_ports (s.ports_enterTableState p cmd) ?_
  cases cmd with
  | commit =>
    cases table : s.tableState with
    | claimed h staged lease n =>
      rw [State.enterTableState_commit_of_claimed p table, State.leaseLaw_iff_of_claimed table,
        State.leaseLaw_iff_of_committing rfl]
      exact And.left
    | _ => exact (State.leaseLaw_congr (by simp only [State.enterTableState, table])).trans
  | wipe _ _ _ | setKey _ _ _ | clearKey _ _ | setRecovery _ _ => exact fun _ => rfl
  | _ => exact id

/-! #### Accesses of the window -/

/-- A claim takes its lease from a parameter in 1 to 255, and starts the lease timer from zero (R42, R43). -/
theorem State.keepsLaws_claim (s : State) (p : Port) : s.KeepsLaws (s.claim p) := by
  have answered := s.keepsLaws_answer p
  unfold State.claim
  dsimp only
  split
  · exact answered _
  split
  · exact answered _
  rename_i good
  have bounds : ∀ staged : Table,
      { s with tableState := .claimed p staged ((s.port p).param 0) 0 }.leaseLaw = true := fun staged =>
    (State.leaseLaw_iff_of_claimed rfl).mpr ⟨by omega, Nat.zero_le _⟩
  split
  · exact answered _
  split
  · exact s.keepsLaws_answer_with _ _ (fun _ => bounds _) p _
  · split
    · exact s.keepsLaws_answer_with _ _ (fun _ => bounds _) p _
    · exact answered _
  all_goals exact answered _

theorem State.keepsLaws_discard (s : State) (p : Port) : s.KeepsLaws (s.discard p) := by
  have answered := s.keepsLaws_answer p
  unfold State.discard
  split
  · exact answered _
  split
  · split
    · exact s.keepsLaws_answer_with _ _ (fun _ => rfl) p _
    · exact answered _
  · split
    all_goals exact answered _
  all_goals exact answered _

/-- An edit changes the staged table and leaves the lease and its timer (R47). -/
theorem State.keepsLaws_edit (s : State) (p : Port) (f : Table → Nat ⊕ Table) : s.KeepsLaws (s.edit p f) := by
  have answered := s.keepsLaws_answer p
  unfold State.edit
  split
  · exact answered _
  split
  · rename_i claimed
    split
    · split
      · exact answered _
      · refine s.keepsLaws_answer_with _ _ (fun law => ?_) p _
        exact (State.leaseLaw_iff_of_claimed rfl).mpr ((State.leaseLaw_iff_of_claimed claimed).mp law)
    · exact answered _
  · split
    all_goals exact answered _
  all_goals exact answered _

theorem State.keepsLaws_takeHold (s : State) (p : Port) : s.KeepsLaws (s.takeHold p) := by
  unfold State.takeHold
  repeat' split
  all_goals exact s.keepsLaws_answer_with _ _ id p _

theorem State.keepsLaws_close (s : State) (p : Port) : s.KeepsLaws (s.close p) := by
  unfold State.close
  repeat' split
  all_goals exact s.keepsLaws_answer_with _ _ id p _

theorem State.keepsLaws_watch (s : State) (p : Port) : s.KeepsLaws (s.watch p) := by
  unfold State.watch
  split
  · exact s.keepsLaws_answer p _
  split
  · exact s.keepsLaws_answer p _
  · exact s.keepsLaws_updPort (PortUnit.keepsLaws_watch _ _ _)

theorem State.keepsLaws_info (s : State) (p : Port) : s.KeepsLaws (s.info p) := by
  unfold State.info
  dsimp only
  repeat' split
  all_goals exact s.keepsLaws_answer p _

theorem State.keepsLaws_setup (s : State) (p : Port) : s.KeepsLaws (s.setup p) := by
  have changed (t : State) (old : Nat) : t.KeepsLaws (t.intervalChanged old) := by
    unfold State.intervalChanged
    split <;> exact .of_ports rfl id
  unfold State.setup
  dsimp only
  repeat' split
  · exact (State.KeepsLaws.trans (s.keepsLaws_updPort (.of_same rfl rfl rfl rfl rfl)) (changed _ _)).settle
  all_goals exact s.keepsLaws_answer p _

theorem State.keepsLaws_refuseData (s : State) (p : Port) : s.KeepsLaws (s.refuseData p) :=
  s.keepsLaws_updPort (.of_same rfl rfl rfl rfl rfl)

theorem State.keepsLaws_output (s : State) (p : Port) (w : Word) : s.KeepsLaws (s.output p w) :=
  s.keepsLaws_updPort (.of_same rfl rfl rfl rfl rfl)

theorem State.keepsLaws_emptyRead (s : State) (p : Port) : s.KeepsLaws (s.emptyRead p) :=
  (s.keepsLaws_refuseData p).trans (State.keepsLaws_output _ p 0)

theorem PortUnit.keepsLaws_fill (u : PortUnit) (w : Word) : u.KeepsLaws (u.fill w) := by
  unfold PortUnit.fill
  split
  · exact .refl u
  · dsimp only
    split <;> exact .of_same rfl rfl rfl rfl rfl

theorem PortUnit.keepsLaws_drain (u : PortUnit) (b : Buffer) (rest : List Buffer) (r : ReadProgress) :
    u.KeepsLaws (u.drain b rest r) := by
  unfold PortUnit.drain
  split
  · refine PortUnit.KeepsLaws.setProgress ?_ _
    exact .of_same rfl rfl rfl rfl rfl
  · exact .of_same rfl rfl rfl rfl rfl

theorem State.keepsLaws_dataWrite (s : State) (p : Port) (w : Word) : s.KeepsLaws (s.dataWrite p w) := by
  have refused := s.keepsLaws_refuseData p
  unfold State.dataWrite
  split
  · exact refused
  split
  · split
    · split
      · exact (s.keepsLaws_updPort (PortUnit.keepsLaws_fill _ w)).settle
      split
      · exact (s.keepsLaws_updPort (.of_same rfl rfl rfl rfl rfl)).settle
      · exact refused
    · exact refused
  all_goals exact refused

theorem State.keepsLaws_completeRead (s : State) (p : Port) : s.KeepsLaws (s.completeRead p) := by
  unfold State.completeRead
  split
  · exact .refl s
  split
  · split
    · exact s.keepsLaws_finish p _
    · exact .refl s
  · exact .refl s

theorem State.keepsLaws_dataRead (s : State) (p : Port) : s.KeepsLaws (s.dataRead p) := by
  have empty := s.keepsLaws_emptyRead p
  unfold State.dataRead
  split
  · exact empty
  split
  · split
    · exact empty
    split
    · exact empty
    split
    · refine State.KeepsLaws.settle (.trans ?_ (State.keepsLaws_completeRead _ p))
      exact (s.keepsLaws_output p _).trans (State.keepsLaws_updPort _ (PortUnit.keepsLaws_drain _ _ _ _))
    · exact empty
  · exact empty

theorem State.keepsLaws_paramWrite (s : State) (p : Port) (loc : Nat) (w : Word) :
    s.KeepsLaws (s.paramWrite p loc w) := by
  unfold State.paramWrite
  split
  · exact s.keepsLaws_updPort (.of_same rfl rfl rfl rfl rfl)
  · exact .refl s

/-- An ABORT withdraws a QUEUED entry, ends the ACTIVE one or is noted in it (R75 to R77). -/
theorem State.keepsLaws_abort (s : State) (p : Port) : s.KeepsLaws (s.abort p) := by
  unfold State.abort
  split
  · exact s.keepsLaws_answer p _
  split
  · exact s.keepsLaws_answer p _
  rename_i e found
  split
  · rename_i queued
    exact State.KeepsLaws.trans (s.keepsLaws_updPort (PortUnit.keepsLaws_withdraw _ found queued))
      (State.keepsLaws_answer _ p _)
  · rename_i a started
    refine State.KeepsLaws.settle (.trans ?_ (State.keepsLaws_answer _ p _))
    unfold State.abortActive
    split
    · exact s.keepsLaws_updPort (PortUnit.keepsLaws_setActive _ (List.mem_of_find?_eq_some found) started _)
    · exact (s.keepsLaws_finish p _).trans (State.keepsLaws_leaveTableState _ _)

/-- Every access of a window keeps the laws. -/
theorem State.WindowEffect.keepsLaws {s t : State} {p : Port} (e : s.WindowEffect p t) : s.KeepsLaws t := by
  cases e with
  | nothing => exact .refl s
  | issueQueued tag _ => exact s.keepsLaws_updPort (PortUnit.keepsLaws_issueQueued _ tag _)
  | claim => exact s.keepsLaws_claim p
  | discard => exact s.keepsLaws_discard p
  | define | delete | resize | modify => exact s.keepsLaws_edit p _
  | close => exact s.keepsLaws_close p
  | hold => exact s.keepsLaws_takeHold p
  | abort => exact s.keepsLaws_abort p
  | pop => exact s.keepsLaws_updPort (PortUnit.keepsLaws_pop _)
  | watch => exact s.keepsLaws_watch p
  | notices => exact s.keepsLaws_updPort (PortUnit.keepsLaws_notices _)
  | info => exact s.keepsLaws_info p
  | setup => exact s.keepsLaws_setup p
  | dataWrite w => exact s.keepsLaws_dataWrite p w
  | dataRead => exact s.keepsLaws_dataRead p
  | paramWrite loc w => exact s.keepsLaws_paramWrite p loc w
  | badCommand => exact s.keepsLaws_answer p _
  | output w => exact s.keepsLaws_output p w
  | stageKey | eventsWrite _ | enableWrite _ => exact s.keepsLaws_updPort (.of_same rfl rfl rfl rfl rfl)

end Sys2Proof.Machine

namespace Sys2Proof.Machine

/-! #### Starts and grants -/

theorem State.keepsLaws_openIfMatched (s : State) (p : Port) (cmd : QueuedCommand) (st : Status) :
    s.KeepsLaws (s.openIfMatched p cmd st) := by
  unfold State.openIfMatched
  repeat' split
  all_goals exact .of_ports rfl id

/-- The oldest entry starts when a slot is free, which it reserves or fills (R64, R66). -/
theorem State.keepsLaws_commandStart (s : State) (p : Port) : s.KeepsLaws (s.commandStart p) := by
  unfold State.commandStart
  split
  · rename_i may
    obtain ⟨-, -, queued, room⟩ := (s.mayStart_iff p).mp may
    split
    · exact .refl s
    split
    · refine State.KeepsLaws.settle (.trans (s.keepsLaws_updPort ?_) (State.keepsLaws_openIfMatched _ p _ _))
      exact PortUnit.keepsLaws_endAtStart queued room _ _
    · refine State.KeepsLaws.settle (.trans (s.keepsLaws_updPort ?_) (State.keepsLaws_enterTableState _ p _))
      exact PortUnit.keepsLaws_becomeActive queued room rfl
  · exact .refl s

theorem State.keepsLaws_tableFault (s : State) (p : Port) (cmd : QueuedCommand) (removed : Bool) :
    s.KeepsLaws (s.tableFault p cmd removed) := by
  unfold State.tableFault
  split
  · exact .of_ports rfl fun _ => rfl
  · exact (s.keepsLaws_leaveTableState cmd).trans (State.keepsLaws_finish _ p _)

theorem PortUnit.keepsLaws_mount (u : PortUnit) (pr : Progress) : u.KeepsLaws (u.mount pr) := by
  cases pr with
  | read r =>
    refine PortUnit.KeepsLaws.setProgress ?_ _
    exact .of_same rfl rfl rfl rfl rfl
  | write w =>
    unfold PortUnit.mount
    dsimp only
    split <;> exact .of_same rfl rfl rfl rfl rfl
  | _ => exact u.keepsLaws_setProgress _

theorem State.keepsLaws_grant (s : State) (p : Port) (e : Entry) (a : Active) (w : Work) :
    s.KeepsLaws (s.grant p e a w) := by
  unfold State.grant
  split
  · have same : s.KeepsLaws { s with lastGranted := p, standbyTimer := none } := .of_ports rfl id
    exact (same.trans (State.keepsLaws_tableFault _ p _ _)).settle
  · set s1 : State :=
      { s with
        lastGranted := p, inFlight := some (.segment { port := p, cmd := e.cmd, removed := false, work := w }) }
    have same : s.KeepsLaws s1 := .of_ports rfl id
    exact (same.trans (s1.keepsLaws_updPort (PortUnit.keepsLaws_mount _ _))).settle

/-! #### The ends of the array's operations -/

theorem State.keepsLaws_landed (s : State) (array : Memory) : s.KeepsLaws { s.landed with array := array } :=
  .of_ports rfl id

theorem PortUnit.keepsLaws_dropInArray (u : PortUnit) : u.KeepsLaws u.dropInArray := .of_same rfl rfl rfl rfl rfl

theorem PortUnit.keepsLaws_readReport (u : PortUnit) (r : ReadProgress) (count : Nat) (report : ReadReport) :
    u.KeepsLaws (u.readReport r count report) := by
  cases report
  all_goals
    refine PortUnit.KeepsLaws.setProgress ?_ _
    exact .of_same rfl rfl rfl rfl rfl

theorem State.keepsLaws_readEnd (s : State) (g : Segment) (count : Nat) (report : ReadReport) :
    s.KeepsLaws (s.readEnd g count report) := by
  have landed : s.KeepsLaws s.landed := .of_ports rfl id
  unfold State.readEnd
  split
  · exact landed.trans (State.keepsLaws_updPort _ (PortUnit.keepsLaws_dropInArray _))
  split
  · exact landed
  split
  · rename_i r _
    have reported : s.KeepsLaws (s.landed.updPort g.port fun u => u.readReport r count report) :=
      landed.trans (State.keepsLaws_updPort _ (PortUnit.keepsLaws_readReport _ r count report))
    dsimp only
    split
    · exact reported.trans (State.keepsLaws_finish _ _ _)
    · exact reported.trans (State.keepsLaws_completeRead _ _)
  · exact landed

theorem State.keepsLaws_checkEnd (s : State) (g : Segment) (count : Nat) (report : ReadReport) :
    s.KeepsLaws (s.checkEnd g count report) := by
  have landed : s.KeepsLaws s.landed := .of_ports rfl id
  have counted (pr : Progress) := landed.trans (State.keepsLaws_setProgress s.landed g.port pr)
  unfold State.checkEnd
  split
  · exact landed
  split
  · exact landed
  split
  · dsimp only
    split
    · exact (counted _).trans (State.keepsLaws_finish _ _ _)
    split
    · exact (counted _).trans (State.keepsLaws_finish _ _ _)
    · exact counted _
  · exact landed

/-- A rise of a change count gives notice to the other ports that watch the partition (R132, R169). -/
theorem State.keepsLaws_riseCount (s : State) (i : Index) (p : Port) : s.KeepsLaws (s.riseCount i p) := by
  refine ⟨fun q => ?_, id⟩
  rw [State.port_riseCount]
  split
  · rename_i watches
    exact PortUnit.keepsLaws_notified _ watches.2
  · exact .refl _

theorem State.keepsLaws_programmed (s : State) (i : Index) (p : Port) (n : Nat) (data : List Byte) (ok : Bool) :
    s.KeepsLaws (s.programmed i p n data ok) := by
  unfold State.programmed
  dsimp only
  split
  · exact s.keepsLaws_landed _
  · exact (s.keepsLaws_landed _).trans (State.keepsLaws_riseCount _ i p)

theorem State.keepsLaws_blanked (s : State) (i : Index) (p : Port) (b : Nat) : s.KeepsLaws (s.blanked i p b) :=
  (s.keepsLaws_landed _).trans (State.keepsLaws_riseCount _ i p)

theorem State.keepsLaws_writeReport (s : State) (p : Port) (count : Nat) (w : WriteProgress) (abortPending : Bool)
    (report : ProgramReport) : s.KeepsLaws (s.writeReport p count w abortPending report) := by
  have stopped : s.KeepsLaws (s.updPort p fun u => u.stoppedAt w) := s.keepsLaws_setProgress p _
  have freed : s.KeepsLaws (s.updPort p fun u => u.programmedOne w) := by
    refine s.keepsLaws_updPort (PortUnit.KeepsLaws.setProgress ?_ _)
    exact .of_same rfl rfl rfl rfl rfl
  cases report with
  | written =>
    unfold State.writeReport
    dsimp only
    split
    · exact freed.trans (State.keepsLaws_finish _ _ _)
    split
    · exact freed.trans (State.keepsLaws_finish _ _ _)
    · exact freed
  | _ => exact stopped.trans (State.keepsLaws_finish _ _ _)

theorem State.keepsLaws_writeEnd (s : State) (g : Segment) (i : Index) (count n : Nat) (data : List Byte) (ok : Bool) :
    s.KeepsLaws (s.writeEnd g i count n data ok) := by
  have programmed := s.keepsLaws_programmed i g.port n data ok
  unfold State.writeEnd
  dsimp only
  split
  · exact programmed.trans (State.keepsLaws_updPort _ (PortUnit.keepsLaws_dropInArray _))
  split
  · exact programmed
  split
  · exact programmed.trans (State.keepsLaws_writeReport _ _ _ _ _ _)
  · exact programmed

theorem State.keepsLaws_blankEnd (s : State) (g : Segment) (i : Index) (count b : Nat) :
    s.KeepsLaws (s.blankEnd g i count b) := by
  have blanked := s.keepsLaws_blanked i g.port b
  have counted (pr : Progress) := blanked.trans (State.keepsLaws_setProgress (s.blanked i g.port b) g.port pr)
  unfold State.blankEnd
  dsimp only
  split
  · exact blanked
  split
  · exact blanked
  split
  · split
    · exact (counted _).trans (State.keepsLaws_finish _ _ _)
    split
    · exact (counted _).trans (State.keepsLaws_finish _ _ _)
    · exact counted _
  · exact blanked

theorem State.keepsLaws_wipeBlockEnd (s : State) (g : Segment) (i : Index) (b : Nat) :
    s.KeepsLaws (s.wipeBlockEnd g i b) := by
  have blanked := s.keepsLaws_blanked i g.port b
  have counted (pr : Progress) := blanked.trans (State.keepsLaws_setProgress (s.blanked i g.port b) g.port pr)
  unfold State.wipeBlockEnd
  dsimp only
  split
  · exact blanked.trans (.of_ports rfl fun _ => rfl)
  split
  · exact blanked
  split
  · split
    · exact ((counted _).trans (State.keepsLaws_finish _ _ _)).trans (State.keepsLaws_leaveTableState _ _)
    · exact counted _
  · exact blanked

/-- A table segment goes on, or the start-up load. -/
theorem State.keepsLaws_inFlight (s : State) (array : Memory) (flight : Option InFlight) :
    s.KeepsLaws { s with array := array, inFlight := flight } := .of_ports rfl id

theorem State.keepsLaws_headerEnd (s : State) (g : Segment) (new : Table) (ok : Bool) :
    s.KeepsLaws (s.headerEnd g new ok) := by
  unfold State.headerEnd
  dsimp only
  split
  · exact s.keepsLaws_inFlight _ _
  · exact ((s.keepsLaws_landed _).trans (State.keepsLaws_tableFault _ _ _ _)).settle

/-- The ends of R31 post their records in the slots reserved for them. -/
theorem State.keepsLaws_endChanged (s : State) (g : Segment) (new : Table) : s.KeepsLaws (s.endChanged g new) := by
  have ends (s : State) (q : Port) : s.KeepsLaws (s.endIfChanged g new q) := by
    unfold State.endIfChanged
    split
    · exact s.keepsLaws_finish q _
    · exact .refl s
  exact ((ends _ .a).trans (ends _ .b)).trans (ends _ .c)

theorem State.keepsLaws_makeLive (s : State) (g : Segment) (new : Table) : s.KeepsLaws (s.makeLive g new) := by
  refine ⟨fun q => ?_, fun _ => rfl⟩
  rw [State.port_makeLive]
  split
  · exact .refl _
  · exact .of_same rfl rfl rfl rfl rfl

theorem State.keepsLaws_switchover (s : State) (g : Segment) (new : Table) : s.KeepsLaws (s.switchover g new) := by
  have live := (s.keepsLaws_endChanged g new).trans (State.keepsLaws_makeLive _ g new)
  unfold State.switchover
  dsimp only
  split
  · exact live
  · exact live.trans (State.keepsLaws_finish _ _ _)

theorem State.keepsLaws_recordsEnd (s : State) (g : Segment) (new : Table) (ok : Bool) :
    s.KeepsLaws (s.recordsEnd g new ok) := by
  unfold State.recordsEnd
  dsimp only
  split
  · exact ((s.keepsLaws_landed _).trans (State.keepsLaws_switchover _ g new)).settle
  · exact ((s.keepsLaws_landed _).trans (State.keepsLaws_tableFault _ _ _ _)).settle

theorem State.keepsLaws_loadEnd (s : State) (got : List ReadReport) : s.KeepsLaws (s.loadEnd got) := by
  unfold State.loadEnd
  split
  · exact s.keepsLaws_inFlight _ _
  · refine State.KeepsLaws.settle ⟨fun p => ?_, id⟩
    show (s.port p).KeepsLaws ((PerPort.mapPorts _ _).get p)
    rw [PerPort.get_mapPorts]
    exact .of_same rfl rfl rfl rfl rfl

/-! #### Expiries, time and the resets -/

theorem State.keepsLaws_standbyExpiry (s : State) : s.KeepsLaws s.standbyExpiry := by
  unfold State.standbyExpiry
  split
  · exact State.KeepsLaws.settle (.of_ports rfl id)
  · exact .refl s

theorem State.keepsLaws_wakeEnd (s : State) : s.KeepsLaws s.wakeEnd := by
  unfold State.wakeEnd
  split
  · exact State.KeepsLaws.settle (.of_ports rfl id)
  · exact .refl s

theorem State.keepsLaws_leaseExpiry (s : State) : s.KeepsLaws s.leaseExpiry := by
  unfold State.leaseExpiry State.loseClaim
  repeat' split
  · exact s.keepsLaws_updPort_with _ _ (fun _ => rfl) (.of_same rfl rfl rfl rfl rfl)
  all_goals exact .refl s

theorem State.keepsLaws_stallExpiry (s : State) (p : Port) : s.KeepsLaws (s.stallExpiry p) := by
  unfold State.stallExpiry
  split
  · exact (s.keepsLaws_finish p _).settle
  · exact .refl s

/-- The lease timer counts up to the lease length and no further (R43). -/
theorem State.keepsLaws_tick (s : State) : s.KeepsLaws s.tick := by
  refine ⟨fun p => ?_, fun law => ?_⟩
  · rw [State.port_tick]
    exact .of_same rfl rfl rfl rfl rfl
  · cases table : s.tableState with
    | claimed h staged lease n =>
      obtain ⟨bounds, counted⟩ := (State.leaseLaw_iff_of_claimed table).mp law
      refine (State.leaseLaw_iff_of_claimed (State.tableState_tick_of_claimed table)).mpr ⟨bounds, ?_⟩
      split <;> omega
    | _ => exact (State.leaseLaw_congr (State.tableState_tick_of_not_claimed (by simp [table]))).trans law

/-- A port reset drops the claim of its port, and leaves another port's lease (R56 to R58). -/
theorem State.leaseLaw_clearPort {s : State} (p : Port) (law : s.leaseLaw = true) :
    (s.clearPort p).leaseLaw = true := by
  obtain free | same : s.tableStateAfterReset p = .free ∨ s.tableStateAfterReset p = s.tableState := by
    unfold State.tableStateAfterReset
    split
    · exact .inl rfl
    all_goals
      rename_i table
      rw [table]
      split
      · exact .inl rfl
      · exact .inr rfl
  · simp only [State.leaseLaw, State.clearPort, free]
  · exact (State.leaseLaw_congr same).trans law

theorem State.keepsLaws_resetPort (s : State) (p : Port) : s.KeepsLaws (s.resetPort p) := by
  refine State.KeepsLaws.settle ⟨fun q => ?_, State.leaseLaw_clearPort p⟩
  by_cases here : q = p
  · subst here
    rw [State.port_updPort_same, State.port_clearPort_same]
    exact PortUnit.keepsLaws_reset _ rfl rfl rfl rfl
  · rw [State.port_updPort_of_ne _ _ here, State.port_clearPort_of_ne s here]
    exact .refl _

/-- A part reset and the supply clear every port and the table state (R183). -/
theorem State.keepsLaws_of_wiped (s : State) (begun : Bool) {t : State} (ports : t.ports = (s.wiped begun).ports)
    (free : t.tableState = .free) : s.KeepsLaws t := by
  refine ⟨fun p => ?_, fun _ => by simp only [State.leaseLaw, free]⟩
  obtain ⟨level, unit⟩ := s.port_wiped begun p
  rw [show t.port p = (s.wiped begun).port p from congrArg (PerPort.get · p) ports, unit]
  exact PortUnit.keepsLaws_reset _ rfl rfl rfl rfl

/-- Every event keeps the laws. -/
theorem State.Event.keepsLaws {s t : State} (e : s.Event t) : s.KeepsLaws t := by
  cases e with
  | nothing => exact .refl s
  | commandStart p => exact s.keepsLaws_commandStart p
  | grant _ _ _ _ => exact s.keepsLaws_grant _ _ _ _
  | readEnd _ _ _ => exact (s.keepsLaws_readEnd _ _ _).settle
  | checkEnd _ _ _ => exact (s.keepsLaws_checkEnd _ _ _).settle
  | writeEnd ok _ _ _ => exact (s.keepsLaws_writeEnd _ _ _ _ _ ok).settle
  | blankEnd _ _ _ => exact (s.keepsLaws_blankEnd _ _ _ _).settle
  | wipeBlockEnd _ _ _ => exact (s.keepsLaws_wipeBlockEnd _ _ _).settle
  | tableBlankEnd _ _ => exact s.keepsLaws_inFlight _ _
  | headerEnd ok _ _ => exact s.keepsLaws_headerEnd _ _ ok
  | recordsEnd ok _ _ => exact s.keepsLaws_recordsEnd _ _ ok
  | loadEnd _ => exact s.keepsLaws_loadEnd _
  | standbyExpiry => exact s.keepsLaws_standbyExpiry
  | wakeEnd => exact s.keepsLaws_wakeEnd
  | leaseExpiry => exact s.keepsLaws_leaseExpiry
  | stallExpiry p => exact s.keepsLaws_stallExpiry p
  | tick => exact s.keepsLaws_tick
  | resetPort p _ _ => exact s.keepsLaws_resetPort p
  | withPrst p level => exact s.keepsLaws_updPort (.of_same rfl rfl rfl rfl rfl)
  | partReset begun _ => exact s.keepsLaws_of_wiped begun rfl rfl
  | partResetUnpowered _ => exact .of_ports rfl id
  | releaseReset _ => exact .of_ports rfl id
  | powerOn begun => exact s.keepsLaws_of_wiped begun rfl rfl
  | powerLoss begun _ => exact s.keepsLaws_of_wiped begun rfl rfl

/-- Every step keeps the laws; the waiting commands and port C's frame are beside them. -/
theorem State.KeepsLaws.of_step {s t : State} (h : step s = .next t) : s.KeepsLaws t :=
  step_induction (I := s.KeepsLaws) (J := s.KeepsLaws)
    (fun _ _ k => k.trans (.of_ports rfl id)) (fun _ _ _ k => k.trans (.of_ports rfl id))
    (fun _ _ _ k => k.trans (.of_ports rfl id)) (fun k e => k.trans e.keepsLaws) (fun k e => k.trans e.keepsLaws) h
    (.refl s)

/-- Settles O8: every step keeps the completion law together with what it rests on of the queue law. -/
theorem completionLawIsKept : Obligations.CompletionLawIsKept := by
  intro s t queue completion h
  refine (t.atPorts_iff _).mpr fun p => (PortUnit.completionLaw_iff _).mpr ?_
  obtain ⟨room, reserved⟩ := (PortUnit.completionLaw_iff _).mp ((s.atPorts_iff _).mp completion p)
  obtain ⟨-, room', reserved'⟩ :=
    ((State.KeepsLaws.of_step h).port p).slots ⟨State.queuedBehind_of_queueLaw queue p, room, reserved⟩
  exact ⟨room', reserved'⟩

/-- Settles O11: what WATCH and a rise of a change count leave in the notice set is watched; CLAIM alone sets a lease,
and the lease timer counts no further than it. -/
theorem noticesAndLeasesStayInBounds : Obligations.NoticesAndLeasesStayInBounds := by
  intro s t h
  have keeps := State.KeepsLaws.of_step h
  refine ⟨fun law => (t.atPorts_iff _).mpr fun p => ?_, keeps.lease⟩
  exact (keeps.port p).notices ((s.atPorts_iff _).mp law p)

end Sys2Proof.Machine

namespace Sys2Proof.Machine

/-! ### EVENTS and EVENT_ENABLE (R164, R165) -/

/-- Settles O25: each write acts on its own field of the port unit, bit by bit. -/
theorem eventWritesActOnTheirOwnBits : Obligations.EventWritesActOnTheirOwnBits := by
  intro s p w
  refine ⟨fun made => ?_, fun made => ?_⟩
  · exact congrArg Host.Outcome.next (State.onWrite_of_made (fun s => s.eventsWrite p w) made)
  · exact congrArg Host.Outcome.next (State.onWrite_of_made (fun s => s.enableWrite p w) made)

/-! ### POP (R161) -/

theorem PortUnit.pop_of_empty {u : PortUnit} (empty : u.completions = []) :
    u.pop = { u with answers := codeAlone 0x29 } := by
  simp only [PortUnit.pop, empty]
  rfl

theorem PortUnit.pop_of_oldest {u : PortUnit} {r : Completion} {rest : List Completion}
    (oldest : u.completions = r :: rest) : u.pop = { u with completions := rest, answers := r.words } := by
  simp only [PortUnit.pop, oldest]

/-- Settles O37: with no record POP answers EMPTY, else the oldest record leaves the queue for the ANSWER words. -/
theorem popGivesTheOldestRecord : Obligations.PopGivesTheOldestRecord := by
  intro s p made
  have popped : exec (.pop p) s = .next ((s.setPort p (s.port p).pop).passWord p) :=
    congrArg Host.Outcome.next (State.onWrite_of_made (fun s => s.updPort p PortUnit.pop) made)
  refine ⟨fun empty => ?_, fun r rest oldest => ?_⟩
  · rw [popped, PortUnit.pop_of_empty empty]
    rfl
  · rw [popped, PortUnit.pop_of_oldest oldest]

/-! ### WATCH and NOTICES (R168, R170) -/

theorem State.watch_of_loading {s : State} (loading : s.part = .loading) (p : Port) :
    s.watch p = s.answer p (codeAlone 0x26) := by
  rw [State.watch, if_pos loading]
  rfl

theorem State.watch_of_badSet {s : State} {p : Port} (ready : s.part = .ready)
    (far : 255 < (s.port p).params[0].toNat) : s.watch p = s.answer p (codeAlone 0x25) := by
  have none : indexSetOf ((s.port p).param 0) = none := if_neg (Nat.not_lt.mpr far)
  simp only [State.watch, ready, none, reduceCtorEq, if_false]
  rfl

/-- WATCH takes the low byte of its parameter as the watch set. -/
theorem State.watch_of_set {s : State} {p : Port} (ready : s.part = .ready)
    (small : (s.port p).params[0].toNat ≤ 255) :
    s.watch p =
      s.setPort p
        { s.port p with
          watch := (s.port p).params[0].setWidth 8,
          notice := (s.port p).notice &&& (s.port p).params[0].setWidth 8, answers := codeAlone 0x20 } := by
  have given : indexSetOf ((s.port p).param 0) = some ((s.port p).params[0].setWidth 8) :=
    if_pos (Nat.lt_succ_of_le small)
  simp only [State.watch, ready, given, reduceCtorEq, if_false]
  rfl

/-- Settles O39: the cases of WATCH in their order, and NOTICES. -/
theorem watchAndNoticesActOnTheirSets : Obligations.WatchAndNoticesActOnTheirSets := by
  intro s p made
  refine ⟨fun loading => ?_, fun ready far => ?_, fun ready small => ?_, ?_⟩
  · exact State.next_onWrite_answer made (State.watch_of_loading loading p)
  · exact State.next_onWrite_answer made (State.watch_of_badSet ready far)
  · show Host.Outcome.next (s.onWrite p 0 fun s => s.watch p) = _
    rw [State.onWrite_of_made _ made, State.watch_of_set ready small]
  · exact congrArg Host.Outcome.next (State.onWrite_of_made (fun s => s.updPort p PortUnit.notices) made)

end Sys2Proof.Machine

namespace Sys2Proof.Machine

/-! ### The six events, EVENTS and ATTN (R163, R165, R171) -/

/-- Whether the event of a bit of EVENTS is set (R163, R171). -/
def PortUnit.event (u : PortUnit) : Nat → Bool
  | 0 => !u.completions.isEmpty
  | 1 => decide (u.notice ≠ 0)
  | 2 => u.latched.table
  | 3 => u.latched.claimLost
  | 4 => u.latched.dataRefused
  | 5 => u.latched.ready
  | _ => false

/-- The events as binary digits. -/
theorem PortUnit.events_eq_bits (u : PortUnit) :
    u.events = Nat.bit (u.event 0) (Nat.bit (u.event 1) (Nat.bit (u.event 2) (Nat.bit (u.event 3)
      (Nat.bit (u.event 4) (Nat.bit (u.event 5) 0))))) := by
  have digit : ∀ b : Bool, flagCode b = b.toNat := by decide
  simp only [PortUnit.events, PortUnit.event, Nat.bit_val, digit]
  omega

theorem PortUnit.testBit_events (u : PortUnit) (k : Nat) : u.events.testBit k = u.event k := by
  rw [PortUnit.events_eq_bits]
  match k with
  | 0 | 1 | 2 | 3 | 4 | 5 => simp only [Nat.testBit_bit_zero, Nat.testBit_bit_succ]
  | k + 6 => simp only [Nat.testBit_bit_succ, Nat.zero_testBit, PortUnit.event]

theorem State.windowRead_events {s : State} {p : Port} (takes : s.takesAccess p = true) (k : Nat) :
    (s.windowRead p 22).getLsbD k = (s.port p).event k := by
  have read : s.windowRead p 22 = BitVec.ofNat 16 (s.port p).events := by simp [State.windowRead, takes]
  rw [read, BitVec.getLsbD_ofNat, PortUnit.testBit_events]
  match k with
  | 0 | 1 | 2 | 3 | 4 | 5 => rfl
  | k + 6 => exact Bool.and_false _

theorem PortUnit.event_done_iff (u : PortUnit) : u.event 0 = true ↔ u.completions ≠ [] := by simp [PortUnit.event]

theorem PortUnit.event_notice_iff (u : PortUnit) : u.event 1 = true ↔ u.notice ≠ 0 := decide_eq_true_iff

theorem exists_lt_six_iff {P : Nat → Prop} : (∃ k < 6, P k) ↔ P 0 ∨ P 1 ∨ P 2 ∨ P 3 ∨ P 4 ∨ P 5 := by
  constructor
  · rintro ⟨k, lt, holds⟩
    interval_cases k <;> simp only [holds, true_or, or_true]
  · rintro (h | h | h | h | h | h)
    all_goals exact ⟨_, by decide, h⟩

/-- ATTN is asserted exactly while the event of some bit is set and enabled. -/
theorem State.attn_iff {s : State} {p : Port} (takes : s.takesAccess p = true) :
    s.attn p = true ↔ ∃ k < 6, (s.port p).event k = true ∧ (s.port p).enables.getLsbD k = true := by
  have bit : ∀ k < 6, (BitVec.ofNat 6 (s.port p).events &&& (s.port p).enables).getLsbD k =
      ((s.port p).event k && (s.port p).enables.getLsbD k) := fun k lt => by
    rw [BitVec.getLsbD_and, BitVec.getLsbD_ofNat, decide_eq_true lt, Bool.true_and, PortUnit.testBit_events]
  have zero : BitVec.ofNat 6 (s.port p).events &&& (s.port p).enables = 0 ↔
      ∀ k < 6, ¬ ((s.port p).event k = true ∧ (s.port p).enables.getLsbD k = true) := by
    constructor
    · intro none k lt both
      rw [← Bool.and_eq_true, ← bit k lt, none] at both
      simp at both
    · intro none
      refine BitVec.eq_of_getLsbD_eq fun k lt => ?_
      rw [bit k lt, Bool.eq_false_iff.mpr fun both => none k lt (Bool.and_eq_true_iff.mp both)]
      exact BitVec.getLsbD_zero.symm
  simp only [State.attn, State.drives, takes, Bool.true_and, decide_eq_true_eq, ne_eq, zero, not_forall, not_not,
    exists_prop]

/-! ### PORT_STATUS (R172) -/

theorem PortUnit.isSome_activeEntry_iff (u : PortUnit) :
    u.activeEntry.isSome = true ↔ ∃ e rest, u.queue = e :: rest ∧ e.active ≠ none := by
  cases queue : u.queue with
  | nil => simp [PortUnit.activeEntry, queue]
  | cons e rest => simp [PortUnit.activeEntry_cons u e rest queue, Option.isSome_iff_ne_none]

theorem State.tableView_le (s : State) (p : Port) : s.tableView p ≤ 4 := by
  unfold State.tableView
  repeat' split
  all_goals decide

theorem flagCode_eq_one_iff (b : Bool) : flagCode b = 1 ↔ b = true := by cases b <;> decide

theorem flagCode_le_one (b : Bool) : flagCode b ≤ 1 := by cases b <;> decide

/-- A bit of a word, by division. -/
theorem getLsbD_ofNat_iff {n k : Nat} (lt : k < 16) : (BitVec.ofNat 16 n).getLsbD k = true ↔ n / 2 ^ k % 2 = 1 := by
  rw [BitVec.getLsbD_ofNat, decide_eq_true lt, Bool.true_and, Nat.testBit_eq_decide_div_mod_eq, decide_eq_true_eq]

/-- A field of a word, by division. -/
theorem toNat_extractLsb'_ofNat {n : Nat} (small : n < 2 ^ 16) (start len : Nat) :
    ((BitVec.ofNat 16 n).extractLsb' start len).toNat = n / 2 ^ start % 2 ^ len := by
  rw [BitVec.extractLsb'_toNat, BitVec.toNat_ofNat, Nat.mod_eq_of_lt small, Nat.shiftRight_eq_div_pow]

/-- The fields that PORT_STATUS packs: the numbers of entries and of records, XFER, READY, the table state as seen from
the port, and whether an entry is ACTIVE (R172). -/
structure StatusFields (w : Word) (entries records view : Nat) (xfer ready active : Bool) : Prop where
  entries : (w.extractLsb' 0 3).toNat = entries
  records : (w.extractLsb' 3 4).toNat = records
  xfer : w.getLsbD 7 = xfer
  ready : w.getLsbD 8 = ready
  view : (w.extractLsb' 9 3).toNat = view
  active : w.getLsbD 12 = active
  rest : ∀ k, 13 ≤ k → w.getLsbD k = false

/-- The packed word gives its fields back while each fits its place. -/
theorem statusFields_ofNat {entries records view : Nat} (few : entries ≤ 4) (fit : records ≤ 8) (seen : view ≤ 4)
    (xfer ready active : Bool) :
    StatusFields (BitVec.ofNat 16
        (entries + 8 * records + 128 * flagCode xfer + 256 * flagCode ready + 512 * view + 4096 * flagCode active))
      entries records view xfer ready active := by
  have x := flagCode_le_one xfer
  have r := flagCode_le_one ready
  have a := flagCode_le_one active
  have small : entries + 8 * records + 128 * flagCode xfer + 256 * flagCode ready + 512 * view +
      4096 * flagCode active < 2 ^ 13 := by omega
  have field := toNat_extractLsb'_ofNat (small.trans (by decide))
  refine ⟨?_, ?_, ?_, ?_, ?_, ?_, fun k far => ?_⟩
  · rw [field]
    omega
  · rw [field]
    omega
  · rw [Bool.eq_iff_iff, getLsbD_ofNat_iff (by decide), ← flagCode_eq_one_iff]
    omega
  · rw [Bool.eq_iff_iff, getLsbD_ofNat_iff (by decide), ← flagCode_eq_one_iff]
    omega
  · rw [field]
    omega
  · rw [Bool.eq_iff_iff, getLsbD_ofNat_iff (by decide), ← flagCode_eq_one_iff]
    omega
  · rw [BitVec.getLsbD_ofNat, Nat.testBit_lt_two_pow (small.trans_le (Nat.pow_le_pow_right (by decide) far)),
      Bool.and_false]

theorem State.statusFields_windowRead {s : State} {p : Port} (takes : s.takesAccess p = true)
    (few : (s.port p).queue.length ≤ 4) (fit : (s.port p).completions.length ≤ 8) :
    StatusFields (s.windowRead p 24) (s.port p).queue.length (s.port p).completions.length (s.tableView p) (s.xfer p)
      (decide (s.part = .ready)) (s.port p).activeEntry.isSome := by
  have read : s.windowRead p 24 = s.portStatus p := by simp [State.windowRead, takes]
  rw [read]
  exact statusFields_ofNat few fit (s.tableView_le p) _ _ _

/-! ### XFER and a port that takes no access (R101, R173) -/

theorem State.xfer_iff {s : State} {p : Port} (takes : s.takesAccess p = true) :
    s.xfer p = true ↔
      (s.port p).transferUnit ≤ s.available p ∨
        ((s.port p).remaining < (s.port p).transferUnit ∧ (s.port p).remaining ≤ s.available p ∧
          0 < (s.port p).remaining) := by
  simp only [State.xfer, State.drives, takes, Bool.true_and, Bool.or_eq_true, Bool.and_eq_true, decide_eq_true_eq,
    and_assoc]

/-- A port that takes no access drives no output, and every read gives 0. -/
theorem State.outputs_of_closed {s : State} {p : Port} (closed : s.takesAccess p = false) :
    s.attn p = false ∧ s.xfer p = false ∧ ∀ loc, s.windowRead p loc = 0 := by
  simp [State.attn, State.xfer, State.drives, State.windowRead, closed]

/-! ### The bytes remaining and available (R100) -/

/-- Without an ACTIVE READ or WRITE, and after an ABORT of it, nothing remains and nothing is available. -/
theorem State.noBytes_of_no_transfer {s : State} {p : Port}
    (none : ∀ e a, (s.port p).activeEntry = some (e, a) →
      a.abortPending = true ∨ ∀ i start count, e.cmd ≠ .read i start count ∧ e.cmd ≠ .write i start count) :
    (s.port p).remaining = 0 ∧ s.available p = 0 := by
  cases active : (s.port p).activeEntry with
  | none => simp only [PortUnit.remaining, State.available, active, and_self]
  | some x =>
    obtain ⟨e, a⟩ := x
    obtain aborted | other := none e a active
    · simp only [PortUnit.remaining, State.available, active, aborted, if_true, and_self]
    · cases cmd : e.cmd with
      | read i start count => exact absurd cmd (other i start count).1
      | write i start count => exact absurd cmd (other i start count).2
      | _ => simp [PortUnit.remaining, State.available, active, cmd]

section

variable {s : State} {p : Port} {e : Entry} {a : Active} (active : (s.port p).activeEntry = some (e, a))
  (kept : a.abortPending = false) {i : Index} {start count : Nat}

include active kept

section

/-! An ACTIVE WRITE. -/

variable {w : WriteProgress} (cmd : e.cmd = .write i start count) (progress : a.progress = .write w)

include cmd progress

theorem PortUnit.remaining_of_write : (s.port p).remaining = count * 512 - (s.port p).moved := by
  simp only [PortUnit.remaining, active, kept, cmd, progress, Bool.false_eq_true, if_false]
  rfl

/-- A WRITE moves bytes into its FILLING buffer, or into one that it may take. -/
theorem State.available_of_write :
    s.available p =
      if (s.port p).hasFilling then 512 - (s.port p).offset
      else if (s.port p).moved < count * 512 ∧ s.mayTake p = true then 512 else 0 := by
  have left : 0 < (s.port p).remaining ↔ (s.port p).moved < count * 512 := by
    rw [PortUnit.remaining_of_write active kept cmd progress]
    omega
  simp only [State.available, active, kept, cmd, progress, Bool.false_eq_true, if_false, left]
  rfl

end

section

/-! An ACTIVE READ. -/

variable {r : ReadProgress} (cmd : e.cmd = .read i start count) (progress : a.progress = .read r)

include cmd progress

theorem PortUnit.remaining_of_read (whole : r.failAt = none) :
    (s.port p).remaining = count * 512 - (s.port p).moved := by
  simp only [PortUnit.remaining, active, kept, cmd, progress, whole, Bool.false_eq_true, if_false]
  rfl

/-- A READ that failed delivers what lies before the sector that it failed at. -/
theorem PortUnit.remaining_of_failed_read {f : Nat} (failed : r.failAt = some f) :
    (s.port p).remaining = (f - start) * 512 - (s.port p).moved := by
  simp only [PortUnit.remaining, active, kept, cmd, progress, failed, Bool.false_eq_true, if_false]
  rfl

/-- A READ moves bytes out of its oldest buffer, while that is DRAINING or READY. -/
theorem State.available_of_read :
    s.available p =
      if (s.port p).oldestIs .draining then 512 - (s.port p).offset
      else if (s.port p).oldestIs .ready then 512 else 0 := by
  simp only [State.available, active, kept, cmd, progress, Bool.false_eq_true, if_false]
  rfl

end

end

/-- Settles O26: the outputs while the port takes accesses, while it takes none, and the bytes of R100 by the ACTIVE
command. -/
theorem outputsFollowTheState : Obligations.OutputsFollowTheState := by
  intro s p
  refine ⟨fun takes => ?taken, State.outputs_of_closed, State.noBytes_of_no_transfer, ?write, ?read⟩
  case taken =>
    have event := State.windowRead_events takes
    refine ⟨?attn, ?done, ?notice, event 2, event 3, event 4, event 5, fun k far => ?beyond, State.xfer_iff takes,
      fun few fit => ?status⟩
    case attn =>
      rw [State.attn_iff takes, exists_lt_six_iff, PortUnit.event_done_iff, PortUnit.event_notice_iff]
      rfl
    case done => rw [event, PortUnit.event_done_iff]
    case notice => rw [event, PortUnit.event_notice_iff]
    case beyond =>
      obtain ⟨j, rfl⟩ := Nat.exists_eq_add_of_le' far
      exact event (j + 6)
    case status =>
      obtain ⟨entries, records, xfer, ready, view, active, rest⟩ := State.statusFields_windowRead takes few fit
      refine ⟨entries, records, xfer, ?_, view, ?_, rest⟩
      · rw [ready, decide_eq_true_eq]
      · rw [active, PortUnit.isSome_activeEntry_iff]
  case write =>
    intro e a i start count w active kept cmd progress
    have available := State.available_of_write active kept cmd progress
    refine ⟨PortUnit.remaining_of_write active kept cmd progress, fun older b transfers filling => ?_, fun other => ?_⟩
    · rw [available, if_pos ((PortUnit.hasFilling_iff _).mpr ⟨older, b, transfers, filling⟩)]
    · rw [available, (PortUnit.hasFilling_eq_false_iff _).mpr other, if_neg Bool.false_ne_true]
  case read =>
    intro e a i start count r active kept cmd progress
    have available := State.available_of_read active kept cmd progress
    refine ⟨PortUnit.remaining_of_read active kept cmd progress,
      fun f => PortUnit.remaining_of_failed_read active kept cmd progress,
      fun b rest transfers => ⟨fun draining => ?_, fun ready => ?_, fun notDraining notReady => ?_⟩, fun empty => ?_⟩
    · simp [available, PortUnit.oldestIs_iff, transfers, draining]
    · simp [available, PortUnit.oldestIs_iff, transfers, ready]
    · simp [available, PortUnit.oldestIs_iff, transfers, notDraining, notReady]
    · simp [available, PortUnit.oldestIs_iff, empty]

end Sys2Proof.Machine

namespace Sys2Proof.Machine

/-! ### The segment of a port that is reset (R57, R58, R104) -/

/-- Some segment in flight is the port's: one of its ACTIVE entry, or of an entry that a reset removed. -/
theorem State.segmentOf_iff (s : State) (p : Port) :
    s.segmentOf p = true ↔ ∃ x, s.inFlight = some (.segment x) ∧ x.port = p := by
  rw [State.segmentOf, Bool.or_eq_true, State.ownSegment_iff, State.removedSegment_iff]
  constructor
  · rintro (⟨x, flight, port, -⟩ | ⟨x, flight, port, -⟩)
    all_goals exact ⟨x, flight, port⟩
  · rintro ⟨x, flight, port⟩
    cases removed : x.removed with
    | false => exact .inl ⟨x, flight, port, removed⟩
    | true => exact .inr ⟨x, flight, port, removed⟩

/-- The commands that hold a table state (R41, R52). -/
theorem QueuedCommand.holdsTable_iff (c : QueuedCommand) :
    c.holdsTable = true ↔
      c = .commit ∨ (∃ i which key, c = .wipe i which key) ∨ (∃ i key mode, c = .setKey i key mode) ∨
        (∃ i key, c = .clearKey i key) ∨ ∃ new old, c = .setRecovery new old := by
  cases c <;> simp [QueuedCommand.holdsTable]

theorem State.jobInFlight_iff (s : State) (p : Port) :
    s.jobInFlight p = true ↔ ∃ x, s.inFlight = some (.segment x) ∧ x.port = p ∧ x.cmd.holdsTable = true := by
  unfold State.jobInFlight
  cases s.inFlight with
  | none => simp
  | some f => cases f <;> simp

/-! ### What a port reset leaves at its port (R104, R105, R182) -/

theorem State.port_resetPort_same (s : State) (p : Port) :
    (s.resetPort p).port p =
      { PortUnit.reset with
        prst := true, transfers := (s.port p).keptBuffers (s.segmentOf p),
        guarantee := (s.clearPort p).resetGuarantee p } := by
  rw [State.resetPort, State.port_settle_eq, State.port_updPort_same, State.port_clearPort_same]
  rfl

/-- Of another port a reset moves the stall timer at most. -/
theorem State.port_resetPort_of_ne (s : State) {p q : Port} (other : q ≠ p) :
    ∃ n, (s.resetPort p).port q = { s.port q with stallTimer := n } := by
  rw [State.resetPort, State.port_settle_eq, State.port_updPort_of_ne _ _ other, State.port_clearPort_of_ne s other]
  exact ⟨_, rfl⟩

theorem State.SamePool.freeCount {s t : State} (h : s.SamePool t) : t.freeCount = s.freeCount := by
  have holding (p : Port) : (t.port p).holding = (s.port p).holding := congrArg List.length (h.port p).transfers
  simp only [State.freeCount, State.heldCount, holding]

/-- A new guarantee does not move the free count. -/
theorem State.freeCount_resetPort (s : State) (p : Port) : (s.resetPort p).freeCount = (s.clearPort p).freeCount := by
  rw [(s.samePool_resetPort p).freeCount]
  cases p <;> rfl

/-- The guarantee is 2 when the pool law allows it, and the most it allows otherwise (R105). -/
theorem State.resetGuarantee_cases (s : State) (p : Port) :
    s.resetGuarantee p = 2 ∧ (2 - (s.port p).holding) + s.othersUnmet p ≤ s.freeCount ∨
      s.freeCount < (2 - (s.port p).holding) + s.othersUnmet p ∧
        s.resetGuarantee p = s.freeCount - s.othersUnmet p + (s.port p).holding := by
  rw [State.resetGuarantee]
  split
  · rename_i admits
    exact .inl ⟨rfl, (s.poolAdmits_iff p 2).mp admits⟩
  · rename_i refused
    rw [State.poolAdmits_iff] at refused
    exact .inr ⟨Nat.lt_of_not_le refused, rfl⟩

/-! ### What a port reset leaves beside the ports (R9, R15, R16, R56 to R58, R158) -/

theorem State.interval_of_vote_zero {s : State} {p : Port} (never : (s.port p).vote = 0) : s.interval = 0 := by
  cases p <;> simp [State.interval, never]

/-- The port's vote is 0, so E is never. -/
theorem State.interval_resetPort (s : State) (p : Port) : (s.resetPort p).interval = 0 :=
  State.interval_of_vote_zero (p := p) (by rw [State.port_resetPort_same]; rfl)

/-- The standby timer runs only while E is not never. -/
theorem State.standbyTimer_settle_of_never {s : State} (never : s.interval = 0) : s.settle.standbyTimer = none := by
  have stopped : s.idleTimed = false := by simp [State.idleTimed, never]
  rw [State.standbyTimer_settle, stopped]
  rfl

theorem State.standbyTimer_resetPort (s : State) (p : Port) : (s.resetPort p).standbyTimer = none :=
  State.standbyTimer_settle_of_never ((State.sameDemand_settle _).interval.symm.trans (s.interval_resetPort p))

theorem State.inFlight_resetPort (s : State) (p : Port) :
    (s.resetPort p).inFlight = s.inFlight.map (InFlight.removeOwner p) := State.inFlight_settle _

/-- A grant is wanted after the buffers have been freed (R15, R90). -/
theorem State.wantsGrant_resetPort_iff (s : State) (p : Port) :
    (s.resetPort p).wantsGrant = true ↔
      s.inFlight = none ∧ s.part = .ready ∧ ∃ q, (s.resetPort p).eligible q = true := by
  have flight : (s.resetPort p).inFlight = none ↔ s.inFlight = none := by
    rw [State.inFlight_resetPort]
    exact Option.map_eq_none_iff
  have part : (s.resetPort p).part = s.part := State.part_settle _
  rw [State.wantsGrant_iff, flight, part]

theorem State.power_resetPort_of_wanted {s : State} {p : Port} (standby : s.power = .standby)
    (wanted : (s.resetPort p).wantsGrant = true) : (s.resetPort p).power = .waking :=
  State.power_settle_of_wanted standby ((State.sameDemand_settle _).wantsGrant.symm.trans wanted)

theorem State.power_resetPort_of_kept {s : State} {p : Port}
    (kept : s.power ≠ .standby ∨ ¬ (s.resetPort p).wantsGrant = true) : (s.resetPort p).power = s.power := by
  obtain awake | unwanted := kept
  · exact State.power_settle_of_awake awake
  · exact State.power_settle_of_not_wanted
      ((State.sameDemand_settle _).wantsGrant.symm.trans (Bool.eq_false_iff.mpr unwanted))

/-- The claim or the job of the port is dropped, unless a segment of the job is still in flight (R56 to R58). -/
theorem State.tableStateAfterReset_spec (s : State) (p : Port) :
    match s.tableState with
    | .free => s.tableStateAfterReset p = .free
    | .claimed h _ _ _ => s.tableStateAfterReset p = if h = p then .free else s.tableState
    | .committing h _ _ => s.tableStateAfterReset p = if h = p ∧ s.jobInFlight p = false then .free else s.tableState
    | .updating j => s.tableStateAfterReset p = if j = p ∧ s.jobInFlight p = false then .free else s.tableState := by
  unfold State.tableStateAfterReset
  cases table : s.tableState <;> rfl

/-- Settles O58: the reset port's unit and the guarantee of R105, the wake and the timers that follow, and the fields
that `clearPort` names. -/
theorem portResetClearsThePort : Obligations.PortResetClearsThePort := by
  refine ⟨fun s p => ⟨s.segmentOf_iff p, ?_⟩, fun s p => ⟨rfl, fun powered released => ?_⟩⟩
  · simp only [State.jobInFlight_iff, QueuedCommand.holdsTable_iff]
  have reset : exec (.portReset p) s = .next (s.resetPort p) := by
    simp [exec, execPortReset, powered, released]
  have table : (s.resetPort p).tableState = s.tableStateAfterReset p := State.tableState_settle _
  refine ⟨s.resetPort p, _, _, reset, rfl, s.port_resetPort_same p, ?guarantee, fun q => s.port_resetPort_of_ne,
    fun i => ?openSet, State.array_settle _, State.live_settle _, State.counts_settle _,
    State.held_settle _, State.part_settle _, State.lastGranted_settle _, State.currentSlot_settle _,
    State.pending_settle _, State.powered_settle _, State.resetLine_settle _, State.selected_settle _,
    s.interval_resetPort p, s.standbyTimer_resetPort p, fun standby idle ready some => ?wake, fun kept => ?kept,
    State.frame_settle _, fun none => ?idle, fun got load => ?load, fun x segment => ?segment, ?table⟩
  case guarantee =>
    have cases := (s.clearPort p).resetGuarantee_cases p
    rwa [State.othersUnmet_clearPort, ← State.freeCount_resetPort, State.port_clearPort_same] at cases
  case openSet =>
    have openSets : (s.resetPort p).openSets = Vector.ofFn fun i : Fin 8 => (s.openSets[i]).set p false :=
      State.openSets_settle _
    rw [openSets]
    exact Vector.getElem_ofFn _
  case wake => exact State.power_resetPort_of_wanted standby ((s.wantsGrant_resetPort_iff p).mpr ⟨idle, ready, some⟩)
  case kept =>
    refine State.power_resetPort_of_kept ?_
    rw [State.wantsGrant_resetPort_iff]
    obtain awake | busy | loading | none := kept
    · exact .inl awake
    · exact .inr fun ⟨idle, _⟩ => busy idle
    · exact .inr fun ⟨_, ready, _⟩ => loading ready
    · exact .inr fun ⟨_, _, q, eligible⟩ => Bool.eq_false_iff.mp (none q) eligible
  case idle => rw [State.inFlight_resetPort, none]; rfl
  case load => rw [State.inFlight_resetPort, load]; rfl
  case segment => rw [State.inFlight_resetPort, segment]; rfl
  case table =>
    rw [table]
    exact s.tableStateAfterReset_spec p

end Sys2Proof.Machine

namespace Sys2Proof.Machine

/-! ### ISSUE words (R176, R177, R181) -/

/-- Bits 8 to 15 of the word are the code. -/
theorem issueCode_issueWordOf {code : Nat} (small : code < 256) (tag : Byte) : issueCode (issueWordOf code tag) = code := by
  have bound := tag.isLt
  rw [issueCode, issueWordOf, BitVec.toNat_ofNat]
  omega

/-- Bits 0 to 7 of the word are the tag. -/
theorem issueTag_issueWordOf (code : Nat) (tag : Byte) : issueTag (issueWordOf code tag) = tag := by
  have bound := tag.isLt
  refine BitVec.eq_of_toNat_eq ?_
  rw [issueTag, BitVec.toNat_setWidth, issueWordOf, BitVec.toNat_ofNat]
  omega

/-- Settles O23: the word's code names the command, and its tag is the issue's. A word of BAD_COMMAND has none of the
codes; INFO's two rows are told apart by the selector. -/
theorem issueWordsReadBack : Obligations.IssueWordsReadBack := by
  intro c p w selector wf encoded part partition
  cases c with
  | badCommand q word =>
    obtain ⟨rfl, rfl⟩ : q = p ∧ word = w := by simpa [encodeIssue] using encoded
    exact decodeIssue_of_no_code (by simpa [Instr.wf] using wf)
  | infoPart q =>
    obtain ⟨rfl, rfl⟩ : q = p ∧ issueWordOf 0x1D 0 = w := by simpa [encodeIssue] using encoded
    simp [decodeIssue, issueCode_issueWordOf, part rfl]
  | infoPartition q =>
    obtain ⟨rfl, rfl⟩ : q = p ∧ issueWordOf 0x1D 0 = w := by simpa [encodeIssue] using encoded
    have selects : ¬ selector = 8#16 := partition rfl
    simp [decodeIssue, issueCode_issueWordOf, selects]
  | read q tag | check q tag | write q tag | blank q tag | wipe q tag | commit q tag | openKey q tag | setKey q tag
  | clearKey q tag | setRecovery q tag =>
    cases encoded
    simp [decodeIssue, issueCode_issueWordOf, issueTag_issueWordOf]
  | claim q | discard q | define q | delete q | resize q | modify q | close q | hold q | stageKey q | abort q | pop q
  | watch q | notices q | setup q =>
    cases encoded
    simp [decodeIssue, issueCode_issueWordOf]
  | _ => cases encoded

/-! ### A write of the window runs the command of its location (R171, R176, R177) -/

/-- A write access whose effects agree on the state they act on. -/
theorem State.onWrite_congr {s : State} {f g : State → State} (same : f s = g s) (p : Port) (loc : Nat) :
    s.onWrite p loc f = s.onWrite p loc g := by
  rw [State.onWrite, State.onWrite, same]

/-- A write of ISSUE has the effect of the command that its word names. -/
theorem exec_decodeIssue (s : State) (p : Port) (w : Word) :
    exec (decodeIssue p (s.port p).params[0] w) s = .next (s.onWrite p 0 fun s => s.issueWord p w) := by
  -- The rows of the code table, one by one; INFO's two rows have one effect.
  generalize named : decodeIssue p (s.port p).params[0] w = c
  unfold decodeIssue at named
  repeat' split at named
  all_goals
    subst named
    refine congrArg Host.Outcome.next (State.onWrite_congr ?_ p 0)
    simp only [State.issueWord, decodeIssue, *, if_true, if_false]

/-- Settles O22: the word of ISSUE names the command, and each other location with a behaviour has a command of its
own. -/
theorem issueWriteRunsTheNamedCommand : Obligations.IssueWriteRunsTheNamedCommand := by
  intro s p w
  exact ⟨(exec_decodeIssue s p w).symm, rfl, rfl, rfl⟩

/-! ### Reads and writes of the window (R171, R173) -/

theorem State.takesAccess_iff (s : State) (p : Port) :
    s.takesAccess p = true ↔ s.powered = true ∧ s.resetLine = false ∧ (s.port p).prst = false := by
  simp [State.takesAccess, and_assoc]

/-- An asserted PRST or RESET closes the port. -/
theorem State.not_takesAccess_of_reset {s : State} {p : Port} (line : (s.port p).prst = true ∨ s.resetLine = true) :
    s.takesAccess p = false := by
  rw [Bool.eq_false_iff, ne_eq, State.takesAccess_iff]
  rintro ⟨-, released, negated⟩
  obtain asserted | asserted := line
  · simp [asserted] at negated
  · simp [asserted] at released

theorem State.not_accessMade_of_closed {s : State} {p : Port} (closed : s.takesAccess p = false) (reading : Bool)
    (loc : Nat) : s.accessMade p reading loc = false := by
  simp only [State.accessMade, closed, Bool.false_and]

theorem exec_registerWrite {s : State} {p : Port} {loc : Fin 32} (made : s.accessMade p false loc.val = true) (w : Word) :
    exec (.registerWrite p loc w) s = .next ((s.windowWrite p loc.val w).passWord p) :=
  congrArg Host.Outcome.next (State.onWrite_of_made _ made)

/-- A parameter word is stored at its location. -/
theorem State.windowWrite_param (s : State) (p : Port) (k : Fin 12) (w : Word) :
    s.windowWrite p (k.val + 1) w = s.setPort p { s.port p with params := (s.port p).params.set k.val w } := by
  fin_cases k <;> rfl

/-- The ANSWER words, PORT_STATUS and the locations with nothing ignore a write. -/
theorem State.windowWrite_ignored {loc : Nat} (h : (13 ≤ loc ∧ loc ≤ 20) ∨ 24 ≤ loc) (s : State) (p : Port) (w : Word) :
    s.windowWrite p loc w = s := by
  have issue : loc ≠ 0 := by omega
  have data : loc ≠ 21 := by omega
  have events : loc ≠ 22 := by omega
  have enable : loc ≠ 23 := by omega
  have param : ¬ (1 ≤ loc ∧ loc ≤ 12) := by omega
  simp only [State.windowWrite, State.paramWrite, issue, data, events, enable, param, if_false, dite_false]

/-- While an asserted line closes the port an access changes nothing, and a read gives 0 (R173). -/
theorem exec_of_closed {s : State} {p : Port} (closed : s.takesAccess p = false) (loc : Fin 32) (w : Word) :
    exec (.registerWrite p loc w) s = .next s ∧ exec (.dataWrite p w) s = .next s ∧
      exec (.eventsWrite p w) s = .next s ∧ exec (.eventEnableWrite p w) s = .next s ∧
      exec (.dataRead p) s = .next (s.setPort p { s.port p with dataOut := 0 }) ∧ s.windowRead p loc.val = 0 := by
  have made := State.not_accessMade_of_closed closed
  have kept (loc : Nat) (effect : State → State) :
      (Host.Outcome.next (s.onWrite p loc effect) : Host.Outcome State Fault Refusal) = .next s :=
    congrArg _ (State.onWrite_of_not_made effect (made false loc))
  obtain ⟨-, -, read⟩ := State.outputs_of_closed closed
  refine ⟨kept _ _, kept _ _, kept _ _, kept _ _, congrArg Host.Outcome.next (if_neg ?_), read _⟩
  simp [made]

section

variable {s : State} {p : Port} (takes : s.takesAccess p = true)

include takes

theorem State.windowRead_param (k : Fin 12) : s.windowRead p (k.val + 1) = (s.port p).params[k] := by
  simp only [State.windowRead, takes, if_true]
  exact dif_pos ⟨by omega, by omega⟩

theorem State.windowRead_answer (k : Fin 8) : s.windowRead p (k.val + 13) = (s.port p).answers[k] := by
  have param : ¬ (1 ≤ k.val + 13 ∧ k.val + 13 ≤ 12) := by omega
  simp only [State.windowRead, takes, param, if_true, dite_false]
  exact dif_pos ⟨by omega, by omega⟩

theorem State.getLsbD_windowRead_enables (k : Nat) :
    (s.windowRead p 23).getLsbD k = (s.port p).enables.getLsbD k := by
  have read : s.windowRead p 23 = (s.port p).enables.setWidth 16 := by simp [State.windowRead, takes]
  rw [read, BitVec.getLsbD_setWidth]
  by_cases bit : k < 16
  · simp [bit]
  · rw [BitVec.getLsbD_of_ge (s.port p).enables k (by omega), Bool.and_false]

theorem State.windowRead_nothing {loc : Nat} (h : loc = 0 ∨ 25 ≤ loc) : s.windowRead p loc = 0 := by
  have param : ¬ (1 ≤ loc ∧ loc ≤ 12) := by omega
  have answer : ¬ (13 ≤ loc ∧ loc ≤ 20) := by omega
  have events : loc ≠ 22 := by omega
  have enable : loc ≠ 23 := by omega
  have status : loc ≠ 24 := by omega
  simp only [State.windowRead, takes, param, answer, events, enable, status, if_true, if_false, dite_false]

end

/-- Settles O24: writes and reads location by location, and the accesses of a closed port. -/
theorem registerWritesStoreParameters : Obligations.RegisterWritesStoreParameters := by
  intro s p loc w
  refine ⟨fun made => ⟨fun k here => ?param, fun ignored => ?ignored⟩,
    fun line => exec_of_closed (State.not_takesAccess_of_reset line) loc w,
    fun takes => ⟨State.windowRead_param takes, State.windowRead_answer takes, State.getLsbD_windowRead_enables takes,
      State.windowRead_nothing takes⟩⟩
  case param => rw [exec_registerWrite made, here, State.windowWrite_param]
  case ignored => rw [exec_registerWrite made, State.windowWrite_ignored ignored]

end Sys2Proof.Machine

namespace Sys2Proof.Machine

/-! ### Where port C's frame stands (R174) -/

theorem State.frameAt_iff (s : State) (reading : Bool) (loc : Nat) :
    s.frameAt reading loc = true ↔
      ∃ f, s.frame = some f ∧ f.void = false ∧ f.reading = reading ∧ f.loc = loc ∧ f.half = none := by
  unfold State.frameAt
  cases s.frame with
  | none => simp
  | some f => simp [and_assoc]

/-- Ports A and B reach every location; port C reaches the one at which its frame stands. -/
theorem State.accessMade_iff (s : State) (p : Port) (reading : Bool) (loc : Nat) :
    s.accessMade p reading loc = true ↔
      s.takesAccess p = true ∧
        (p = .c → ∃ f, s.frame = some f ∧ f.void = false ∧ f.reading = reading ∧ f.loc = loc ∧ f.half = none) := by
  by_cases serial : p = .c
  · subst serial
    simp [State.accessMade, State.frameAt_iff]
  · simp [State.accessMade_parallel s serial, serial]

theorem State.passWord_parallel (s : State) {p : Port} (parallel : p ≠ .c) : s.passWord p = s := by
  cases p with
  | a => rfl
  | b => rfl
  | c => exact absurd rfl parallel

theorem State.passWord_serial {s : State} {f : Frame} (frame : s.frame = some f) :
    s.passWord .c =
      { s with
        frame := some { f with loc := if f.loc = 21 ∨ f.loc = 31 then f.loc else f.loc + 1, half := none } } := by
  simp only [State.passWord, frame, Option.map_some, nextLocation]

theorem State.passWord_of_no_frame {s : State} (absent : s.frame = none) (p : Port) : s.passWord p = s := by
  by_cases serial : p = .c
  · subst serial
    cases s
    cases absent
    rfl
  · exact s.passWord_parallel serial

/-! ### A byte of a frame (R174) -/

section

variable {s : State} {f : Frame}

theorem State.byteInFrame_of_void (void : f.void = true) (b : Byte) : s.byteInFrame f b = s.output .c 0 := by
  simp only [State.byteInFrame, void, if_true]

section

variable (valid : f.void = false)

include valid

/-- The first byte of a word in a write frame is held. -/
theorem State.byteInFrame_of_high (writing : f.reading = false) (first : f.half = none) (b : Byte) :
    s.byteInFrame f b = { s with frame := some { f with half := some b } } := by
  simp only [State.byteInFrame, valid, writing, first, Bool.false_eq_true, if_false]

/-- The second byte completes the word, which is written. -/
theorem State.byteInFrame_of_low (writing : f.reading = false) {high : Byte} (second : f.half = some high) (b : Byte) :
    s.byteInFrame f b =
      ({ s with frame := some { f with half := none } }.windowWrite .c f.loc (high ++ b)).passWord .c := by
  simp only [State.byteInFrame, valid, writing, second, Bool.false_eq_true, if_false]
  rfl

/-- The first byte of a word in a read frame reads the location. -/
theorem State.byteInFrame_of_read (reading : f.reading = true) (first : f.half = none) (b : Byte) :
    s.byteInFrame f b =
      { s.readToOutput .c f.loc with
        frame := some { f with half := some (lowByte ((s.readToOutput .c f.loc).port .c).dataOut) } } := by
  simp only [State.byteInFrame, valid, reading, first, Bool.false_eq_true, if_false, if_true]

/-- The second byte of a word in a read frame moves the frame on. -/
theorem State.byteInFrame_of_sent (reading : f.reading = true) {low : Byte} (second : f.half = some low) (b : Byte) :
    s.byteInFrame f b = s.passWord .c := by
  simp only [State.byteInFrame, valid, reading, second, Bool.false_eq_true, if_false, if_true]

end

theorem State.readToOutput_data (s : State) (p : Port) : s.readToOutput p 21 = s.dataRead p := rfl

theorem State.readToOutput_of_ne {loc : Nat} (other : loc ≠ 21) (s : State) (p : Port) :
    s.readToOutput p loc = s.setPort p { s.port p with dataOut := s.windowRead p loc } := if_neg other

/-! ### A byte on port C's data input (R174) -/

theorem exec_frameByte_of_closed (closed : s.takesAccess .c = false) (b : Byte) :
    exec (.frameByte b) s = .next { s with selected := true } := by
  simp [exec, execFrameByte, State.frameByte, closed]

section

variable (takes : s.takesAccess .c = true)

include takes

/-- After a reset has ended the frame its bytes open none. -/
theorem exec_frameByte_of_ended (absent : s.frame = none) (selected : s.selected = true) (b : Byte) :
    exec (.frameByte b) s = .next s := by
  simp [exec, execFrameByte, State.frameByte, takes, absent, selected]

/-- The first byte since chip select was asserted is the frame byte. -/
theorem exec_frameByte_of_first (absent : s.frame = none) (fresh : s.selected = false) (b : Byte) :
    exec (.frameByte b) s =
      .next { s with
        frame := some { void := b.getLsbD 5 || b.getLsbD 6, reading := b.getLsbD 7, loc := b.toNat % 32, half := none },
        selected := true } := by
  simp [exec, execFrameByte, State.frameByte, takes, absent, fresh, frameOf]

theorem exec_frameByte_of_open (frame : s.frame = some f) (b : Byte) :
    exec (.frameByte b) s = .next (s.byteInFrame f b) := by
  simp [exec, execFrameByte, State.frameByte, takes, frame]

end

end

/-- Settles O60: which accesses are made, and a byte by the frame it comes in. -/
theorem framesMoveWords : Obligations.FramesMoveWords := by
  refine ⟨fun s p reading loc => ⟨s.takesAccess_iff p, s.accessMade_iff p reading loc, s.passWord_parallel,
    fun none => State.passWord_of_no_frame none p, fun f => State.passWord_serial⟩, fun s b => ?_⟩
  refine ⟨rfl, fun p loc w made => exec_registerWrite made w, fun p => exec_dataRead,
    fun closed => exec_frameByte_of_closed closed b, fun takes => ?_⟩
  have byte {f : Frame} (frame : s.frame = some f) := exec_frameByte_of_open takes frame b
  refine ⟨fun none selected => exec_frameByte_of_ended takes none selected b,
    fun none fresh => exec_frameByte_of_first takes none fresh b, fun f frame void => ?void,
    fun f frame valid writing => ⟨fun first => ?high, fun high second => ?low⟩,
    fun f frame valid reading => ⟨fun first other => ?location, fun first data => ?data, fun low second => ?sent⟩⟩
  case void =>
    rw [byte frame, State.byteInFrame_of_void void]
    rfl
  case high => rw [byte frame, State.byteInFrame_of_high valid writing first]
  case low => rw [byte frame, State.byteInFrame_of_low valid writing second]
  case location =>
    rw [byte frame, State.byteInFrame_of_read valid reading first, State.readToOutput_of_ne other,
      State.port_setPort_same]
    rfl
  case data =>
    rw [byte frame, State.byteInFrame_of_read valid reading first, data, State.readToOutput_data]
    rfl
  case sent => rw [byte frame, State.byteInFrame_of_sent valid reading second]

end Sys2Proof.Machine

namespace Sys2Proof.Machine

/-! ### The reset state (R183) -/

/-- Settles O3: each field of the reset state as R60, R71, R79, R87, R101, R144, R159, R166 and R171 give it. -/
theorem resetLeavesTheStatedValues : Obligations.ResetLeavesTheStatedValues := by
  have unit (p : Port) : State.reset.port p = PortUnit.reset := by cases p <;> rfl
  refine ⟨rfl, rfl, rfl, rfl, rfl, rfl, rfl, rfl, rfl, by decide, fun p => ?_⟩
  rw [unit p]
  decide

/-- Settles O4: the reset state is one value, and each law is decidable on it. -/
theorem lawsHoldAtReset : Obligations.LawsHoldAtReset := by
  refine ⟨State.wf_reset, by decide, by decide, by decide, by decide, by decide, by decide, by decide, by decide,
    by decide, by decide, by decide, by decide, by decide, by decide, fun p => ?_⟩
  cases p <;> decide

/-! ### INFO (R181) -/

theorem exec_infoPart {s : State} {p : Port} (made : s.accessMade p false 0 = true) {ws : Vector Word 8}
    (info : s.info p = s.answer p ws) : exec (.infoPart p) s = .next (s.answered p ws) :=
  State.next_onWrite_answer made info

theorem exec_infoPartition {s : State} {p : Port} (made : s.accessMade p false 0 = true) {ws : Vector Word 8}
    (info : s.info p = s.answer p ws) : exec (.infoPartition p) s = .next (s.answered p ws) :=
  State.next_onWrite_answer made info

theorem State.info_of_part {s : State} {p : Port} (selector : (s.port p).params[0].toNat = 8) :
    s.info p = s.answer p s.partRecord := if_pos selector

theorem State.info_of_bad {s : State} {p : Port} (far : 8 < (s.port p).params[0].toNat) :
    s.info p = s.answer p (codeAlone 0x25) := by
  have part : (s.port p).param 0 ≠ 8 := Nat.ne_of_gt far
  have none : indexOf ((s.port p).param 0) = none := indexOf_of_gt (Nat.lt_of_succ_lt far)
  simp only [State.info, part, none, if_false]
  rfl

/-- A selector below 8 asks for the partition record of that index, which a part that is LOADING does not give. -/
theorem State.info_of_index {s : State} {p : Port} {i : Index} (selector : (s.port p).params[0].toNat = i.val) :
    s.info p = if s.part = .loading then s.answer p (codeAlone 0x26) else s.answer p (s.partitionRecord p i) := by
  have index : indexOf ((s.port p).param 0) = some i := indexOf_of_eq selector
  have part : (s.port p).param 0 ≠ 8 := fun eight => absurd (selector.symm.trans eight) (Nat.ne_of_lt i.isLt)
  simp only [State.info, part, index, if_false]
  rfl

/-- A flag at its place in a word. -/
theorem mul_flagCode (n : Nat) (c : Prop) [Decidable c] : n * flagCode (decide c) = if c then n else 0 := by
  by_cases h : c <;> simp [flagCode, h]

/-- The part record, field by field. -/
theorem State.partRecord_eq (s : State) :
    s.partRecord =
      #v[0x20, 0x0136, 16384,
        BitVec.ofNat 16
          (24 + (if s.part = .ready then 256 else 0) + (if s.held then 512 else 0) +
            (if s.live.recovery.isSome then 1024 else 0) + 2048 * s.tableState.code +
            8192 * portCode s.tableState.port),
        s.live.generation.setWidth 16, (s.live.generation >>> 16).setWidth 16,
        BitVec.ofNat 16 ((match s.power with | .ready => 0 | .standby => 1 | .waking => 2) + 256 * s.interval), 0] := by
  simp only [← mul_flagCode, Bool.decide_eq_true]
  rfl

theorem namesPort_portCode (w : Option Port) : namesPort (portCode w) w := by
  cases w with
  | none => rfl
  | some q => cases q <;> rfl

theorem portSetCode_eq_of_names {n : Nat} {r : PortSet} (h : namesPortSet n r) : portSetCode r = n := by
  obtain ⟨small, rfl⟩ := h
  revert n
  decide

/-! ### The partition record (R46, R181) -/

theorem State.stagedFor_of_claimed {s : State} {p : Port} {staged : Table} {lease t : Nat}
    (claimed : s.tableState = .claimed p staged lease t) : s.stagedFor p = some staged := by
  simp only [State.stagedFor, claimed, if_true]

theorem State.stagedFor_of_committing {s : State} {p : Port} {staged : Table} {lease : Nat}
    (committing : s.tableState = .committing p staged lease) : s.stagedFor p = some staged := by
  simp only [State.stagedFor, committing, if_true]

/-- A port that is not the holder sees the live table. -/
theorem State.stagedFor_of_not_holder {s : State} {p : Port}
    (claimed : ∀ staged lease t, s.tableState ≠ .claimed p staged lease t)
    (committing : ∀ staged lease, s.tableState ≠ .committing p staged lease) : s.stagedFor p = none := by
  unfold State.stagedFor
  split
  · rename_i h staged lease t table
    exact if_neg fun here : h = p => claimed staged lease t (here ▸ table)
  · rename_i h staged lease table
    exact if_neg fun here : h = p => committing staged lease (here ▸ table)
  · rfl
  · rfl

/-- The words of a partition record: the record shown, the open set's number, whether the record is the staged one, and
the change count. -/
def recordWords (r : Record) (oc fromStaged : Nat) (count : Word32) : Vector Word 8 :=
  #v[0x20, BitVec.ofNat 16 (Record.flags r + 256 * oc + 2048 * fromStaged),
    BitVec.ofNat 16 (match r with | none => 0 | some x => x.firstBlock),
    BitVec.ofNat 16 (match r with | none => 0 | some x => x.blockCount),
    BitVec.ofNat 16 ((match r with | none => 0 | some x => x.firstBlock) * 16), lowWord count, highWord count, 0]

theorem State.partitionRecord_of_staged {s : State} {p : Port} {i : Index} {staged : Table} {oc : Nat}
    (holder : s.stagedFor p = some staged) (names : namesPortSet oc s.openSets[i]) :
    s.partitionRecord p i = recordWords staged.records[i] oc 1 s.counts[i] := by
  simp only [State.partitionRecord, holder, portSetCode_eq_of_names names, Option.isSome_some, flagCode_true]
  rfl

theorem State.partitionRecord_of_live {s : State} {p : Port} {i : Index} {oc : Nat} (other : s.stagedFor p = none)
    (names : namesPortSet oc s.openSets[i]) :
    s.partitionRecord p i = recordWords s.live.records[i] oc 0 s.counts[i] := by
  simp only [State.partitionRecord, other, portSetCode_eq_of_names names, Option.isSome_none, flagCode_false]
  rfl

theorem recordWords_none (oc fromStaged : Nat) (count : Word32) :
    recordWords none oc fromStaged count =
      #v[0x20, BitVec.ofNat 16 (256 * oc + 2048 * fromStaged), 0, 0, 0, count.setWidth 16, (count >>> 16).setWidth 16,
        0] := by
  rw [recordWords, Record.flags, Nat.zero_add]
  rfl

/-- The low byte of a defined record's flags (R181). -/
theorem Record.flags_some {x : Partition} {wc rc : Nat} (writer : namesPort wc x.writer)
    (readers : namesPortSet rc x.readers) :
    Record.flags (some x) =
      1 + 2 * wc + 8 * rc + (if x.lock.isSome then 64 else 0) +
        (if x.lock.map KeyLock.mode = some .strict then 128 else 0) := by
  simp only [Record.flags, portCode_eq_of_namesPort writer, portSetCode_eq_of_names readers, Nat.add_assoc]
  cases x.lock with
  | none => rfl
  | some l => cases mode : l.mode <;> simp [mode]

/-- Settles O40: the selector's three cases, and the partition record by the side that the port sees. -/
theorem infoAnswersItsRecord : Obligations.InfoAnswersItsRecord := by
  intro s p made
  refine ⟨fun selector => ?part, fun far => exec_infoPartition made (State.info_of_bad far), fun i selector =>
    ⟨fun loading => ?loading, fun ready r fromStaged oc side names => ?record⟩⟩
  case part =>
    refine ⟨_, _, exec_infoPart made ((State.info_of_part selector).trans (congrArg _ s.partRecord_eq)), ?_⟩
    cases table : s.tableState with
    | free => exact ⟨rfl, rfl⟩
    | _ => exact ⟨rfl, namesPort_portCode _⟩
  case loading => exact exec_infoPartition made ((State.info_of_index selector).trans (if_pos loading))
  case record =>
    have words : s.partitionRecord p i = recordWords r oc fromStaged s.counts[i] := by
      obtain ⟨staged, lease, t, claimed, rfl, rfl⟩ | ⟨staged, lease, committing, rfl, rfl⟩ |
        ⟨claimed, committing, rfl, rfl⟩ := side
      · exact State.partitionRecord_of_staged (State.stagedFor_of_claimed claimed) names
      · exact State.partitionRecord_of_staged (State.stagedFor_of_committing committing) names
      · exact State.partitionRecord_of_live (State.stagedFor_of_not_holder claimed committing) names
    have answered : exec (.infoPartition p) s = .next (s.answered p (recordWords r oc fromStaged s.counts[i])) := by
      refine exec_infoPartition made ?_
      rw [State.info_of_index selector, words, if_neg (by simp [ready])]
    refine ⟨fun undefined => ?_, fun x wc rc defined writer readers => ?_⟩
    · rw [answered, undefined, recordWords_none]
    · rw [answered, defined, recordWords, Record.flags_some writer readers]
      rfl

end Sys2Proof.Machine

namespace Sys2Proof.Machine

/-! ### The effective standby interval (R13) -/

/-- With no vote for never E is the greatest of the three votes. -/
theorem State.interval_of_votes {s : State} (votes : ∀ p, (s.port p).vote ≠ 0) :
    s.interval = max (s.port .a).vote (max (s.port .b).vote (s.port .c).vote) := by
  simp [State.interval, votes]

theorem State.vote_le_interval {s : State} (votes : ∀ p, (s.port p).vote ≠ 0) (p : Port) :
    (s.port p).vote ≤ s.interval := by
  rw [State.interval_of_votes votes]
  cases p <;> omega

theorem State.exists_vote_eq_interval {s : State} (votes : ∀ p, (s.port p).vote ≠ 0) :
    ∃ p, (s.port p).vote = s.interval := by
  rw [State.interval_of_votes votes]
  obtain a | b | c : max (s.port .a).vote (max (s.port .b).vote (s.port .c).vote) = (s.port .a).vote ∨
      max (s.port .a).vote (max (s.port .b).vote (s.port .c).vote) = (s.port .b).vote ∨
      max (s.port .a).vote (max (s.port .b).vote (s.port .c).vote) = (s.port .c).vote := by omega
  · exact ⟨.a, a.symm⟩
  · exact ⟨.b, b.symm⟩
  · exact ⟨.c, c.symm⟩

/-! ### SETUP (R180) -/

theorem setupInRange_iff (unit stall vote g l : Nat) :
    setupInRange unit stall vote g l = true ↔
      unit ∈ [32, 64, 128, 256, 512] ∧ stall ≤ 255 ∧ vote ≤ 255 ∧ g ≤ 4 ∧ max g 1 ≤ l ∧ l ≤ 12 := by
  simp only [setupInRange, Bool.and_eq_true, Bool.or_eq_true, decide_eq_true_eq, List.mem_cons, List.not_mem_nil,
    or_false, or_assoc, and_assoc]

section

variable {s : State} {p : Port}

theorem State.setup_of_bad
    (bad : ¬ setupInRange ((s.port p).param 0) ((s.port p).param 1) ((s.port p).param 2) ((s.port p).param 3)
      ((s.port p).param 4) = true) : s.setup p = s.answer p (codeAlone 0x25) := if_neg bad

variable
  (range : setupInRange ((s.port p).param 0) ((s.port p).param 1) ((s.port p).param 2) ((s.port p).param 3)
    ((s.port p).param 4) = true)

include range

theorem State.setup_of_busy (busy : ¬ s.poolAdmits p ((s.port p).param 3) = true) :
    s.setup p = s.answer p (codeAlone 0x2B) := by
  simp only [State.setup, range, busy, if_true]
  rfl

/-- The five values are taken together, a changed E restarts the standby timer, and the timers follow. -/
theorem State.setup_of_taken (admits : s.poolAdmits p ((s.port p).param 3) = true) {t : State}
    (taken : t = s.updPort p fun u => u.takeSetup (u.param 0) (u.param 1) (u.param 2) (u.param 3) (u.param 4)) :
    s.setup p =
      { t with
        standbyTimer :=
          if t.interval = s.interval then s.standbyTimer else s.standbyTimer.map fun _ => 0 }.settle := by
  have timer : t.standbyTimer = s.standbyTimer := by rw [taken, State.standbyTimer_updPort]
  simp only [State.setup, range, admits, if_true, ← taken, State.intervalChanged]
  split
  · rw [← timer]
  · rw [← timer]
    rfl

end

/-- Settles O41: E by the three votes, and SETUP by the ranges and the pool test. -/
theorem setupTakesAllFiveOrNone : Obligations.SetupTakesAllFiveOrNone := by
  refine ⟨fun s => ⟨fun ⟨p, never⟩ => State.interval_of_vote_zero never, fun votes =>
    ⟨State.vote_le_interval votes, State.exists_vote_eq_interval votes⟩⟩, ?_⟩
  rintro s p _ _ _ _ _ made rfl rfl rfl rfl rfl
  refine ⟨fun bad => ?bad, fun unit stall vote g low high => ?good⟩
  case bad =>
    refine State.next_onWrite_answer made (State.setup_of_bad fun range => ?_)
    rw [setupInRange_iff] at range
    obtain ⟨unit, stall, vote, g, low, high⟩ := range
    obtain other | far | far | far | far | far := bad
    · exact other unit
    · exact absurd stall (Nat.not_le.mpr far)
    · exact absurd vote (Nat.not_le.mpr far)
    · exact absurd g (Nat.not_le.mpr far)
    · exact absurd low (Nat.not_le.mpr far)
    · exact absurd high (Nat.not_le.mpr far)
  case good =>
    have range := (setupInRange_iff _ _ _ _ _).mpr ⟨unit, stall, vote, g, low, high⟩
    refine ⟨fun short => ?_, fun covered s1 taken => ?_⟩
    · refine State.next_onWrite_answer made (State.setup_of_busy range ?_)
      rw [State.poolAdmits_iff]
      exact Nat.not_le.mpr short
    · show Host.Outcome.next (s.onWrite p 0 fun s => s.setup p) = _
      rw [State.onWrite_of_made _ made, State.setup_of_taken range ((s.poolAdmits_iff p _).mpr covered) taken]

end Sys2Proof.Machine

namespace Sys2Proof.Machine

/-! ### The first two words of a popped record, bit by bit (R179) -/

/-- Two numbers packed side by side in a word, the first in the low `i` bits. -/
theorem getLsbD_ofNat_packed {low i : Nat} (fits : low < 2 ^ i) (high k : Nat) :
    (BitVec.ofNat 16 (2 ^ i * high + low)).getLsbD k =
      (decide (k < 16) && if k < i then low.testBit k else high.testBit (k - i)) := by
  rw [BitVec.getLsbD_ofNat, Nat.testBit_two_pow_mul_add high fits]

/-- The number of a record's partition, 0 when it names none. -/
def Completion.partitionNumber (r : Completion) : Nat :=
  match r.partition with
  | none => 0
  | some i => i.val

theorem Completion.partitionNumber_lt (r : Completion) : r.partitionNumber < 8 := by
  unfold Completion.partitionNumber
  split
  · decide
  · rename_i i _
    exact i.isLt

/-- Tag, command code and partition, from bits 0, 8 and 13. -/
theorem Completion.getLsbD_word0 {r : Completion} (code : r.code < 32) (k : Nat) :
    r.word0.getLsbD k =
      if k < 8 then r.tag.getLsbD k else if k < 13 then r.code.testBit (k - 8)
      else if k < 16 then r.partitionNumber.testBit (k - 13) else false := by
  have packed : r.word0 = BitVec.ofNat 16 (2 ^ 8 * (2 ^ 5 * r.partitionNumber + r.code) + r.tag.toNat) := by
    rw [Completion.word0]
    refine congrArg (BitVec.ofNat 16) ?_
    show r.tag.toNat + 256 * r.code + 8192 * r.partitionNumber = _
    omega
  rw [packed, getLsbD_ofNat_packed r.tag.isLt, Nat.testBit_two_pow_mul_add _ code, BitVec.testBit_toNat]
  have codeBit : k - 8 < 5 ↔ k < 13 ∨ k < 8 := by omega
  rw [Nat.sub_sub]
  by_cases word : k < 16
  · by_cases tagBit : k < 8 <;> simp [word, tagBit, codeBit]
  · have beyond : ¬ k < 8 ∧ ¬ k < 13 := by omega
    simp [word, beyond]

theorem Status.code_lt (st : Status) : st.code < 32 := by cases st <;> decide

/-- What the bits of ANSWER1 above the status say: the fields present, and the ninth bits of the counts. -/
def Completion.mark (r : Completion) : Nat → Bool
  | 0 => r.partition.isSome
  | 1 => r.sectorsDone.isSome
  | 2 => r.failAt.isSome
  | 3 => r.blankMet.isSome
  | 4 => r.damagedMet.isSome
  | 5 => r.firstDamaged.isSome
  | 6 => r.genStart.isSome
  | 7 => r.genEnd.isSome
  | 8 => r.generation.isSome
  | 9 => r.isReadOrCheck && (r.sectorsDone.getD 0).testBit 8
  | 10 => r.isReadOrCheck && (r.blankMet.getD 0).testBit 8
  | _ => false

/-- The marks as binary digits. -/
def Completion.marks (r : Completion) : Nat :=
  Nat.bit (r.mark 0) (Nat.bit (r.mark 1) (Nat.bit (r.mark 2) (Nat.bit (r.mark 3) (Nat.bit (r.mark 4)
    (Nat.bit (r.mark 5) (Nat.bit (r.mark 6) (Nat.bit (r.mark 7) (Nat.bit (r.mark 8) (Nat.bit (r.mark 9)
      (Nat.bit (r.mark 10) 0))))))))))

theorem Completion.testBit_marks (r : Completion) {k : Nat} (small : k < 11) : r.marks.testBit k = r.mark k := by
  unfold Completion.marks
  interval_cases k
  all_goals simp only [Nat.testBit_bit_zero, Nat.testBit_bit_succ]

/-- The ninth bit of a count, as a number. -/
theorem div_256_mod_two (n : Nat) : n / 256 % 2 = (n.testBit 8).toNat := (Nat.toNat_testBit n 8).symm

theorem Completion.word1_eq (r : Completion) : r.word1 = BitVec.ofNat 16 (2 ^ 5 * r.marks + r.status.code) := by
  have digit : ∀ b : Bool, flagCode b = b.toNat := by decide
  have ninths : (if r.isReadOrCheck then
        16384 * (r.sectorsDone.getD 0 / 256 % 2) + 32768 * (r.blankMet.getD 0 / 256 % 2) else 0) =
      16384 * (r.mark 9).toNat + 32768 * (r.mark 10).toNat := by
    cases counts : r.isReadOrCheck <;> simp [Completion.mark, counts, div_256_mod_two]
  rw [Completion.word1, ninths]
  simp only [Completion.presence, Completion.marks, Nat.bit_val, digit, Completion.mark]
  refine congrArg (BitVec.ofNat 16) ?_
  omega

theorem Completion.getLsbD_word1_status (r : Completion) {k : Nat} (low : k < 5) :
    r.word1.getLsbD k = r.status.code.testBit k := by
  have inside : k < 16 := by omega
  rw [Completion.word1_eq, getLsbD_ofNat_packed r.status.code_lt, if_pos low, decide_eq_true inside, Bool.true_and]

theorem Completion.getLsbD_word1_mark (r : Completion) {k : Nat} (small : k < 11) :
    r.word1.getLsbD (k + 5) = r.mark k := by
  have inside : k + 5 < 16 := by omega
  have high : ¬ k + 5 < 5 := by omega
  rw [Completion.word1_eq, getLsbD_ofNat_packed r.status.code_lt, if_neg high, decide_eq_true inside, Bool.true_and,
    Nat.add_sub_cancel, Completion.testBit_marks r small]

/-! ### The other words, by the command (R179) -/

theorem Completion.isReadOrCheck_iff (r : Completion) : r.isReadOrCheck = true ↔ r.code = 1 ∨ r.code = 2 := by
  simp [Completion.isReadOrCheck]

/-- The low bytes of the two counts of a READ or a CHECK. -/
theorem Completion.getLsbD_word2_of_counts {r : Completion} (counts : r.code = 1 ∨ r.code = 2) {k : Nat} (low : k < 8) :
    r.word2.getLsbD k = (r.sectorsDone.getD 0).testBit k ∧ r.word2.getLsbD (k + 8) = (r.blankMet.getD 0).testBit k := by
  have packed : r.word2 = BitVec.ofNat 16 (2 ^ 8 * (r.blankMet.getD 0 % 2 ^ 8) + r.sectorsDone.getD 0 % 2 ^ 8) := by
    rw [Nat.add_comm]
    obtain code | code := counts
    · simp only [Completion.word2, code]
      rfl
    · simp only [Completion.word2, code]
      rfl
  have inside : k < 16 := by omega
  have beside : k + 8 < 16 := by omega
  have high : ¬ k + 8 < 8 := by omega
  have byte := getLsbD_ofNat_packed (Nat.mod_lt (r.sectorsDone.getD 0) (Nat.two_pow_pos 8)) (r.blankMet.getD 0 % 2 ^ 8)
  rw [packed, byte, byte, if_pos low, if_neg high, decide_eq_true inside, decide_eq_true beside, Nat.add_sub_cancel,
    Nat.testBit_mod_two_pow, Nat.testBit_mod_two_pow, decide_eq_true low]
  simp only [Bool.true_and, and_self]

/-- The change counts of a READ, and the sector it failed at. -/
theorem Completion.words_of_read {r : Completion} (code : r.code = 1) :
    r.words[3] = BitVec.ofNat 16 (r.failAt.getD 0) ∧ r.words[4] = (r.genStart.getD 0).setWidth 16 ∧
      r.words[5] = (r.genStart.getD 0 >>> 16).setWidth 16 ∧ r.words[6] = (r.genEnd.getD 0).setWidth 16 ∧
      r.words[7] = (r.genEnd.getD 0 >>> 16).setWidth 16 := by
  refine ⟨?_, ?_, if_pos code, if_pos code, if_pos code⟩
  · show r.word3 = _
    simp only [Completion.word3, code]
    rfl
  · show r.word4 = _
    simp only [Completion.word4, code]
    rfl

theorem Completion.words_of_check {r : Completion} (code : r.code = 2) :
    r.words[3] = BitVec.ofNat 16 (r.firstDamaged.getD 0) ∧ r.words[4] = BitVec.ofNat 16 (r.damagedMet.getD 0) := by
  constructor
  · show r.word3 = _
    simp only [Completion.word3, code]
    rfl
  · show r.word4 = _
    simp only [Completion.word4, code]
    rfl

/-- The count of a WRITE, a BLANK or a WIPE takes a whole word. -/
theorem Completion.word2_of_count {r : Completion} (code : r.code = 3 ∨ r.code = 4 ∨ r.code = 5) :
    r.word2 = BitVec.ofNat 16 (r.sectorsDone.getD 0) := by
  obtain code | code | code := code
  all_goals
    simp only [Completion.word2, code]
    rfl

theorem Completion.word3_of_write {r : Completion} (code : r.code = 3) :
    r.word3 = BitVec.ofNat 16 (r.failAt.getD 0) := by
  simp only [Completion.word3, code]
  rfl

/-- The generation of a WIPE stands after its count. -/
theorem Completion.words_of_wipe {r : Completion} (code : r.code = 5) :
    r.word3 = (r.generation.getD 0).setWidth 16 ∧ r.word4 = (r.generation.getD 0 >>> 16).setWidth 16 := by
  simp only [Completion.word3, Completion.word4, code]
  exact ⟨rfl, rfl⟩

/-- The generation of a COMMIT or a key job. -/
theorem Completion.words_of_job {r : Completion} (code : r.code = 6 ∨ r.code = 8 ∨ r.code = 9 ∨ r.code = 10) :
    r.word2 = (r.generation.getD 0).setWidth 16 ∧ r.word3 = (r.generation.getD 0 >>> 16).setWidth 16 := by
  obtain code | code | code | code := code
  all_goals
    simp only [Completion.word2, Completion.word3, code]
    exact ⟨rfl, rfl⟩

/-- Only READ, CHECK and WIPE have anything in ANSWER4. -/
theorem Completion.word4_of_other {r : Completion} (read : r.code ≠ 1) (check : r.code ≠ 2) (wipe : r.code ≠ 5) :
    r.word4 = 0 := by
  unfold Completion.word4
  split
  · exact absurd ‹r.code = 1› read
  · exact absurd ‹r.code = 2› check
  · exact absurd ‹r.code = 5› wipe
  · rfl

/-- Settles O38: the first two words bit by bit, and the other words by the command's code. -/
theorem recordsAreLaidOut : Obligations.RecordsAreLaidOut := by
  refine ⟨by decide, fun r small => ?_⟩
  have mark (k : Nat) (lt : k < 11) := r.getLsbD_word1_mark lt
  refine ⟨fun k => ?word0, fun k => r.getLsbD_word1_status, mark 0 (by decide),
    mark 1 (by decide), mark 2 (by decide), mark 3 (by decide), mark 4 (by decide),
    mark 5 (by decide), mark 6 (by decide), mark 7 (by decide), mark 8 (by decide),
    fun counts => ?counts, Completion.word2_of_count, ?failAt, Completion.words_of_check,
    fun code => (Completion.words_of_read code).2, Completion.words_of_wipe, Completion.words_of_job,
    fun other => ⟨if_neg other, if_neg other, if_neg other⟩, fun read check => ?noCounts, ?noField, ?noCount,
    Completion.word4_of_other⟩
  case word0 =>
    refine (Completion.getLsbD_word0 small k).trans ?_
    cases names : r.partition <;> simp only [Completion.partitionNumber, names, Nat.zero_testBit]
  case counts =>
    have laid := r.isReadOrCheck_iff.mpr counts
    refine ⟨(mark 9 (by decide)).trans ?_, (mark 10 (by decide)).trans ?_,
      fun k => Completion.getLsbD_word2_of_counts counts⟩
    all_goals simp only [Completion.mark, laid, Bool.true_and]
  case failAt =>
    rintro (code | code)
    · exact (Completion.words_of_read code).1
    · exact Completion.word3_of_write code
  case noCounts =>
    have plain : r.isReadOrCheck = false := by simp [Completion.isReadOrCheck, read, check]
    refine ⟨(mark 9 (by decide)).trans ?_, (mark 10 (by decide)).trans ?_⟩
    all_goals simp only [Completion.mark, plain, Bool.false_and]
  case noField =>
    rintro (code | code)
    all_goals
      show r.word3 = 0
      simp only [Completion.word3, code]
  case noCount =>
    intro code
    show r.word2 = 0
    simp only [Completion.word2, code]

end Sys2Proof.Machine

namespace Sys2Proof.Machine

/-! ### A step with a command waiting -/

/-- The queue's other branch, beside `step_of_idle`. -/
theorem step_of_waiting {s : State} {c : Instr} {rest : List Instr} (h : s.pending = c :: rest) :
    step s = exec c { s with pending := rest } := by
  unfold step
  rw [h]

/-- Settles O1: of the two branches of `step`, the one taken when a command waits. -/
theorem stepRunsTheFrontCommand : Obligations.StepRunsTheFrontCommand :=
  fun _ _ _ waiting => step_of_waiting waiting

end Sys2Proof.Machine
